-- ==== Sys2Proof/Word.lean ====
section
/-! DEFINITION. The word types of the block: 10_state.md and 00_scope.md rule R11 (uN values). -/

namespace Sys2Proof

/-- A byte of frame-buffer or texture memory (20_memory.md R104, R105). -/
abbrev Byte := BitVec 8

/-- A 16-bit pixel or aux value (20_memory.md R104). -/
abbrev Half := BitVec 16

/-- A u32: a bus data word or a slot of the register file (10_state.md R21). -/
abbrev Word := BitVec 32

/-- A 64-bit accumulator (10_state.md R61, R62). -/
abbrev Wide := BitVec 64

/-- A register number `n` (30_encoding.md R131). -/
abbrev RegNum := BitVec 8

/-- A set of sub-chips: bit 0 FBI, bit 1 TMU0, bit 2 TMU1, bit 3 unused (30_encoding.md R131). -/
abbrev ChipSet := BitVec 4

end Sys2Proof
end

