-- ==== Sys2Proof/Config.lean ====
section
/-! DEFINITION. What an instance of the block fixes at construction (00_scope.md R9), and the free values (41_triangle.md R222). -/

namespace Sys2Proof

/-- The chip generation `GEN` (00_scope.md R4). -/
inductive Gen where
  | v1
  | v2
deriving DecidableEq, Repr

/-- The culling polarity `CULL_DISCARD_ON` (41_triangle.md R223; 90_conflicts.md C3). -/
inductive CullPolarity where
  | onMismatch
  | onMatch
deriving DecidableEq, Repr

/-- Whether LFB pipeline writes run the colour combine, `LFB_COMBINE` (44_commands.md R385). -/
inductive LfbCombine where
  | pipeline
  | bypass
deriving DecidableEq, Repr

/-- One of the two texture-mapping units. -/
inductive TmuId where
  | t0
  | t1
deriving DecidableEq, Repr

/-- The parameters of 00_scope.md R9 that are plain data. They stand in the state, no step changes them, and a
statement about every state is a statement about every instance of the block (log entry 1). The sizes are powers of
two and are held as exponents. -/
structure Params where
  /-- `GEN` -/
  gen : Gen
  /-- `CHIPMASK` (10_state.md R22) -/
  chipmask : ChipSet
  /-- `FB_SIZE = 2 ^ fbBits` bytes -/
  fbBits : Nat
  /-- `TEX_SIZE[0] = 2 ^ texBits0` bytes -/
  texBits0 : Nat
  /-- `TEX_SIZE[1] = 2 ^ texBits1` bytes -/
  texBits1 : Nat
  /-- `FB_MIN = 2 ^ fbMinBits` bytes -/
  fbMinBits : Nat
  /-- `TEX_MIN = 2 ^ texMinBits` bytes -/
  texMinBits : Nat
  /-- `INIT_ENABLE` (40_register_access.md R176) -/
  initEnable : Bool
  /-- `CULL_DISCARD_ON` -/
  cullOn : CullPolarity
  /-- `LFB_COMBINE` -/
  lfbCombine : LfbCombine
  /-- `CACHE_RESERVED` (60_exceptions.md R404) -/
  cacheReserved : Nat
deriving DecidableEq, Repr

/-- The instance that `State.reset` constructs. DESIGN CHOICE (log entry 1): the generation, the units present, the
memory sizes, the minimum sizes and `INIT_ENABLE` are arguments the spec leaves to the model; the other three are the
spec's defaults. -/
def Params.standard : Params where
  gen := .v2
  chipmask := 0x7#4
  fbBits := 22
  texBits0 := 22
  texBits1 := 22
  fbMinBits := 20
  texMinBits := 20
  initEnable := true
  cullOn := .onMismatch
  lfbCombine := .pipeline
  cacheReserved := 0

/-- `CACHE_CAPACITY` (00_scope.md R9). -/
def Config.cacheCapacity : Nat := 1024

/-- The `k`-th unconstrained draw of a 16-bit value: a V2 vertex position whose conversion has no value
(41_triangle.md R222, log entries 14 and 15). A free value: nothing is known of it. -/
opaque Config.drawS16 : Nat → BitVec 16

/-- The `k`-th unconstrained draw of a 32-bit value: a V2 setup conversion out of range, infinite or NaN
(41_triangle.md R222, log entry 14). A free value: nothing is known of it. -/
opaque Config.drawS32 : Nat → BitVec 32

/-- The `k`-th unconstrained draw of a 64-bit value: a V2 setup conversion out of range, infinite or NaN
(41_triangle.md R222, log entry 14). A free value: nothing is known of it. -/
opaque Config.drawS64 : Nat → BitVec 64

/-- The RGB of pixel `k` of an LFB word in the depth-only format 15, for which 44_commands.md R381 states no value (log entry
43). A free value: nothing is known of it. -/
opaque Config.depthOnlyColor : BitVec 32 → Nat → BitVec 24

end Sys2Proof
end

