-- ==== Sys2Proof/Syntax.lean ====
section
/-! DEFINITION. The transactions of the block: one constructor per row of opcode_table.json, and the raw bus request. -/

namespace Sys2Proof

/-- Read or write (30_encoding.md R130). -/
inductive BusKind where
  | wr
  | rd
deriving DecidableEq, Repr

/-- The width of a bus request: 32 bits, or narrower, which the block's interface does not have (20_memory.md R102). -/
inductive BusSize where
  | full
  | narrow
deriving DecidableEq, Repr

/-- A bus request as it arrives on the slave port: `(kind, A, data)` of 30_encoding.md R130, with its width. -/
structure BusRequest where
  kind : BusKind
  size : BusSize
  /-- the byte address `A` of the 16 MiB window -/
  addr : BitVec 24
  /-- the data word of a write -/
  data : Word
deriving DecidableEq, Repr

/-- An access to a register: a read, whose chip select is ignored (40_register_access.md R180), or a write of a data
word with the chip-select field `W[11:8]` (30_encoding.md R131). -/
inductive RegAccess where
  | read
  | write (chipsel : ChipSet) (data : Word)
deriving DecidableEq, Repr

/-- A transaction after decoding and after the alternate register map (30_encoding.md R133): one constructor per row of
opcode_table.json. A reserved register number has no row and no constructor; the decoder rejects it by name. -/
inductive Instr where
  /-- status, n = 0x00 (R183) -/
  | status (a : RegAccess)
  /-- intrCtrl, n = 0x01 (R188) -/
  | intrCtrl (a : RegAccess)
  /-- vertexAx, n = 0x02 (R175) -/
  | vertexAx (a : RegAccess)
  /-- vertexAy, n = 0x03 (R175) -/
  | vertexAy (a : RegAccess)
  /-- vertexBx, n = 0x04 (R175) -/
  | vertexBx (a : RegAccess)
  /-- vertexBy, n = 0x05 (R175) -/
  | vertexBy (a : RegAccess)
  /-- vertexCx, n = 0x06 (R175) -/
  | vertexCx (a : RegAccess)
  /-- vertexCy, n = 0x07 (R175) -/
  | vertexCy (a : RegAccess)
  /-- startR, n = 0x08 (R175) -/
  | startR (a : RegAccess)
  /-- startG, n = 0x09 (R175) -/
  | startG (a : RegAccess)
  /-- startB, n = 0x0A (R175) -/
  | startB (a : RegAccess)
  /-- startZ, n = 0x0B (R175) -/
  | startZ (a : RegAccess)
  /-- startA, n = 0x0C (R175) -/
  | startA (a : RegAccess)
  /-- startS, n = 0x0D (R175) -/
  | startS (a : RegAccess)
  /-- startT, n = 0x0E (R175) -/
  | startT (a : RegAccess)
  /-- startW, n = 0x0F (R175) -/
  | startW (a : RegAccess)
  /-- dRdX, n = 0x10 (R175) -/
  | dRdX (a : RegAccess)
  /-- dGdX, n = 0x11 (R175) -/
  | dGdX (a : RegAccess)
  /-- dBdX, n = 0x12 (R175) -/
  | dBdX (a : RegAccess)
  /-- dZdX, n = 0x13 (R175) -/
  | dZdX (a : RegAccess)
  /-- dAdX, n = 0x14 (R175) -/
  | dAdX (a : RegAccess)
  /-- dSdX, n = 0x15 (R175) -/
  | dSdX (a : RegAccess)
  /-- dTdX, n = 0x16 (R175) -/
  | dTdX (a : RegAccess)
  /-- dWdX, n = 0x17 (R175) -/
  | dWdX (a : RegAccess)
  /-- dRdY, n = 0x18 (R175) -/
  | dRdY (a : RegAccess)
  /-- dGdY, n = 0x19 (R175) -/
  | dGdY (a : RegAccess)
  /-- dBdY, n = 0x1A (R175) -/
  | dBdY (a : RegAccess)
  /-- dZdY, n = 0x1B (R175) -/
  | dZdY (a : RegAccess)
  /-- dAdY, n = 0x1C (R175) -/
  | dAdY (a : RegAccess)
  /-- dSdY, n = 0x1D (R175) -/
  | dSdY (a : RegAccess)
  /-- dTdY, n = 0x1E (R175) -/
  | dTdY (a : RegAccess)
  /-- dWdY, n = 0x1F (R175) -/
  | dWdY (a : RegAccess)
  /-- triangleCMD, n = 0x20 (R210) -/
  | triangleCMD (a : RegAccess)
  /-- fvertexAx, n = 0x22 (R175) -/
  | fvertexAx (a : RegAccess)
  /-- fvertexAy, n = 0x23 (R175) -/
  | fvertexAy (a : RegAccess)
  /-- fvertexBx, n = 0x24 (R175) -/
  | fvertexBx (a : RegAccess)
  /-- fvertexBy, n = 0x25 (R175) -/
  | fvertexBy (a : RegAccess)
  /-- fvertexCx, n = 0x26 (R175) -/
  | fvertexCx (a : RegAccess)
  /-- fvertexCy, n = 0x27 (R175) -/
  | fvertexCy (a : RegAccess)
  /-- fstartR, n = 0x28 (R175) -/
  | fstartR (a : RegAccess)
  /-- fstartG, n = 0x29 (R175) -/
  | fstartG (a : RegAccess)
  /-- fstartB, n = 0x2A (R175) -/
  | fstartB (a : RegAccess)
  /-- fstartZ, n = 0x2B (R175) -/
  | fstartZ (a : RegAccess)
  /-- fstartA, n = 0x2C (R175) -/
  | fstartA (a : RegAccess)
  /-- fstartS, n = 0x2D (R175) -/
  | fstartS (a : RegAccess)
  /-- fstartT, n = 0x2E (R175) -/
  | fstartT (a : RegAccess)
  /-- fstartW, n = 0x2F (R175) -/
  | fstartW (a : RegAccess)
  /-- fdRdX, n = 0x30 (R175) -/
  | fdRdX (a : RegAccess)
  /-- fdGdX, n = 0x31 (R175) -/
  | fdGdX (a : RegAccess)
  /-- fdBdX, n = 0x32 (R175) -/
  | fdBdX (a : RegAccess)
  /-- fdZdX, n = 0x33 (R175) -/
  | fdZdX (a : RegAccess)
  /-- fdAdX, n = 0x34 (R175) -/
  | fdAdX (a : RegAccess)
  /-- fdSdX, n = 0x35 (R175) -/
  | fdSdX (a : RegAccess)
  /-- fdTdX, n = 0x36 (R175) -/
  | fdTdX (a : RegAccess)
  /-- fdWdX, n = 0x37 (R175) -/
  | fdWdX (a : RegAccess)
  /-- fdRdY, n = 0x38 (R175) -/
  | fdRdY (a : RegAccess)
  /-- fdGdY, n = 0x39 (R175) -/
  | fdGdY (a : RegAccess)
  /-- fdBdY, n = 0x3A (R175) -/
  | fdBdY (a : RegAccess)
  /-- fdZdY, n = 0x3B (R175) -/
  | fdZdY (a : RegAccess)
  /-- fdAdY, n = 0x3C (R175) -/
  | fdAdY (a : RegAccess)
  /-- fdSdY, n = 0x3D (R175) -/
  | fdSdY (a : RegAccess)
  /-- fdTdY, n = 0x3E (R175) -/
  | fdTdY (a : RegAccess)
  /-- fdWdY, n = 0x3F (R175) -/
  | fdWdY (a : RegAccess)
  /-- ftriangleCMD, n = 0x40 (R211) -/
  | ftriangleCMD (a : RegAccess)
  /-- fbzColorPath, n = 0x41 (R188) -/
  | fbzColorPath (a : RegAccess)
  /-- fogMode, n = 0x42 (R188) -/
  | fogMode (a : RegAccess)
  /-- alphaMode, n = 0x43 (R188) -/
  | alphaMode (a : RegAccess)
  /-- fbzMode, n = 0x44 (R188) -/
  | fbzMode (a : RegAccess)
  /-- lfbMode, n = 0x45 (R188) -/
  | lfbMode (a : RegAccess)
  /-- clipLeftRight, n = 0x46 (R188) -/
  | clipLeftRight (a : RegAccess)
  /-- clipLowYHighY, n = 0x47 (R188) -/
  | clipLowYHighY (a : RegAccess)
  /-- nopCMD, n = 0x48 (R360) -/
  | nopCMD (a : RegAccess)
  /-- fastfillCMD, n = 0x49 (R362) -/
  | fastfillCMD (a : RegAccess)
  /-- swapbufferCMD, n = 0x4A (R370) -/
  | swapbufferCMD (a : RegAccess)
  /-- fogColor, n = 0x4B (R188) -/
  | fogColor (a : RegAccess)
  /-- zaColor, n = 0x4C (R188) -/
  | zaColor (a : RegAccess)
  /-- chromaKey, n = 0x4D (R188) -/
  | chromaKey (a : RegAccess)
  /-- chromaRange, n = 0x4E (R188) -/
  | chromaRange (a : RegAccess)
  /-- userIntrCMD, n = 0x4F (R373) -/
  | userIntrCMD (a : RegAccess)
  /-- stipple, n = 0x50 (R188) -/
  | stipple (a : RegAccess)
  /-- color0, n = 0x51 (R188) -/
  | color0 (a : RegAccess)
  /-- color1, n = 0x52 (R188) -/
  | color1 (a : RegAccess)
  /-- fbiPixelsIn, n = 0x53 (R184) -/
  | fbiPixelsIn (a : RegAccess)
  /-- fbiChromaFail, n = 0x54 (R184) -/
  | fbiChromaFail (a : RegAccess)
  /-- fbiZfuncFail, n = 0x55 (R184) -/
  | fbiZfuncFail (a : RegAccess)
  /-- fbiAfuncFail, n = 0x56 (R184) -/
  | fbiAfuncFail (a : RegAccess)
  /-- fbiPixelsOut, n = 0x57 (R184) -/
  | fbiPixelsOut (a : RegAccess)
  /-- fogTable[0], n = 0x58 (R187) -/
  | fogTable0 (a : RegAccess)
  /-- fogTable[1], n = 0x59 (R187) -/
  | fogTable1 (a : RegAccess)
  /-- fogTable[2], n = 0x5A (R187) -/
  | fogTable2 (a : RegAccess)
  /-- fogTable[3], n = 0x5B (R187) -/
  | fogTable3 (a : RegAccess)
  /-- fogTable[4], n = 0x5C (R187) -/
  | fogTable4 (a : RegAccess)
  /-- fogTable[5], n = 0x5D (R187) -/
  | fogTable5 (a : RegAccess)
  /-- fogTable[6], n = 0x5E (R187) -/
  | fogTable6 (a : RegAccess)
  /-- fogTable[7], n = 0x5F (R187) -/
  | fogTable7 (a : RegAccess)
  /-- fogTable[8], n = 0x60 (R187) -/
  | fogTable8 (a : RegAccess)
  /-- fogTable[9], n = 0x61 (R187) -/
  | fogTable9 (a : RegAccess)
  /-- fogTable[10], n = 0x62 (R187) -/
  | fogTable10 (a : RegAccess)
  /-- fogTable[11], n = 0x63 (R187) -/
  | fogTable11 (a : RegAccess)
  /-- fogTable[12], n = 0x64 (R187) -/
  | fogTable12 (a : RegAccess)
  /-- fogTable[13], n = 0x65 (R187) -/
  | fogTable13 (a : RegAccess)
  /-- fogTable[14], n = 0x66 (R187) -/
  | fogTable14 (a : RegAccess)
  /-- fogTable[15], n = 0x67 (R187) -/
  | fogTable15 (a : RegAccess)
  /-- fogTable[16], n = 0x68 (R187) -/
  | fogTable16 (a : RegAccess)
  /-- fogTable[17], n = 0x69 (R187) -/
  | fogTable17 (a : RegAccess)
  /-- fogTable[18], n = 0x6A (R187) -/
  | fogTable18 (a : RegAccess)
  /-- fogTable[19], n = 0x6B (R187) -/
  | fogTable19 (a : RegAccess)
  /-- fogTable[20], n = 0x6C (R187) -/
  | fogTable20 (a : RegAccess)
  /-- fogTable[21], n = 0x6D (R187) -/
  | fogTable21 (a : RegAccess)
  /-- fogTable[22], n = 0x6E (R187) -/
  | fogTable22 (a : RegAccess)
  /-- fogTable[23], n = 0x6F (R187) -/
  | fogTable23 (a : RegAccess)
  /-- fogTable[24], n = 0x70 (R187) -/
  | fogTable24 (a : RegAccess)
  /-- fogTable[25], n = 0x71 (R187) -/
  | fogTable25 (a : RegAccess)
  /-- fogTable[26], n = 0x72 (R187) -/
  | fogTable26 (a : RegAccess)
  /-- fogTable[27], n = 0x73 (R187) -/
  | fogTable27 (a : RegAccess)
  /-- fogTable[28], n = 0x74 (R187) -/
  | fogTable28 (a : RegAccess)
  /-- fogTable[29], n = 0x75 (R187) -/
  | fogTable29 (a : RegAccess)
  /-- fogTable[30], n = 0x76 (R187) -/
  | fogTable30 (a : RegAccess)
  /-- fogTable[31], n = 0x77 (R187) -/
  | fogTable31 (a : RegAccess)
  /-- cmdFifoBaseAddr, n = 0x78 (R173) -/
  | cmdFifoBaseAddr (a : RegAccess)
  /-- cmdFifoBump, n = 0x79 (R173) -/
  | cmdFifoBump (a : RegAccess)
  /-- cmdFifoRdPtr, n = 0x7A (R173) -/
  | cmdFifoRdPtr (a : RegAccess)
  /-- cmdFifoAMin, n = 0x7B (R173) -/
  | cmdFifoAMin (a : RegAccess)
  /-- cmdFifoAMax, n = 0x7C (R173) -/
  | cmdFifoAMax (a : RegAccess)
  /-- cmdFifoDepth, n = 0x7D (R173) -/
  | cmdFifoDepth (a : RegAccess)
  /-- cmdFifoHoles, n = 0x7E (R173) -/
  | cmdFifoHoles (a : RegAccess)
  /-- fbiInit4, n = 0x80 (R176) -/
  | fbiInit4 (a : RegAccess)
  /-- vRetrace, n = 0x81 (R185) -/
  | vRetrace (a : RegAccess)
  /-- backPorch, n = 0x82 (R177) -/
  | backPorch (a : RegAccess)
  /-- videoDimensions, n = 0x83 (R177) -/
  | videoDimensions (a : RegAccess)
  /-- fbiInit0, n = 0x84 (R176) -/
  | fbiInit0 (a : RegAccess)
  /-- fbiInit1, n = 0x85 (R176) -/
  | fbiInit1 (a : RegAccess)
  /-- fbiInit2, n = 0x86 (R176) -/
  | fbiInit2 (a : RegAccess)
  /-- fbiInit3, n = 0x87 (R176) -/
  | fbiInit3 (a : RegAccess)
  /-- hSync, n = 0x88 (R177) -/
  | hSync (a : RegAccess)
  /-- vSync, n = 0x89 (R177) -/
  | vSync (a : RegAccess)
  /-- clutData, n = 0x8A (R188) -/
  | clutData (a : RegAccess)
  /-- dacData, n = 0x8B (R188) -/
  | dacData (a : RegAccess)
  /-- maxRgbDelta, n = 0x8C (R188) -/
  | maxRgbDelta (a : RegAccess)
  /-- hBorder, n = 0x8D (R177) -/
  | hBorder (a : RegAccess)
  /-- vBorder, n = 0x8E (R177) -/
  | vBorder (a : RegAccess)
  /-- borderColor, n = 0x8F (R188) -/
  | borderColor (a : RegAccess)
  /-- hvRetrace, n = 0x90 (R185) -/
  | hvRetrace (a : RegAccess)
  /-- fbiInit5, n = 0x91 (R176) -/
  | fbiInit5 (a : RegAccess)
  /-- fbiInit6, n = 0x92 (R176) -/
  | fbiInit6 (a : RegAccess)
  /-- fbiInit7, n = 0x93 (R176) -/
  | fbiInit7 (a : RegAccess)
  /-- fbiSwapHistory, n = 0x96 (R186) -/
  | fbiSwapHistory (a : RegAccess)
  /-- fbiTrianglesOut, n = 0x97 (R184) -/
  | fbiTrianglesOut (a : RegAccess)
  /-- sSetupMode, n = 0x98 (R188) -/
  | sSetupMode (a : RegAccess)
  /-- sVx, n = 0x99 (R189) -/
  | sVx (a : RegAccess)
  /-- sVy, n = 0x9A (R189) -/
  | sVy (a : RegAccess)
  /-- sARGB, n = 0x9B (R189) -/
  | sARGB (a : RegAccess)
  /-- sRed, n = 0x9C (R189) -/
  | sRed (a : RegAccess)
  /-- sGreen, n = 0x9D (R189) -/
  | sGreen (a : RegAccess)
  /-- sBlue, n = 0x9E (R189) -/
  | sBlue (a : RegAccess)
  /-- sAlpha, n = 0x9F (R189) -/
  | sAlpha (a : RegAccess)
  /-- sVz, n = 0xA0 (R189) -/
  | sVz (a : RegAccess)
  /-- sWb, n = 0xA1 (R189) -/
  | sWb (a : RegAccess)
  /-- sWtmu0, n = 0xA2 (R189) -/
  | sWtmu0 (a : RegAccess)
  /-- sS_W0, n = 0xA3 (R189) -/
  | sS_W0 (a : RegAccess)
  /-- sT_W0, n = 0xA4 (R189) -/
  | sT_W0 (a : RegAccess)
  /-- sWtmu1, n = 0xA5 (R189) -/
  | sWtmu1 (a : RegAccess)
  /-- sS_Wtmu1, n = 0xA6 (R189) -/
  | sS_Wtmu1 (a : RegAccess)
  /-- sT_Wtmu1, n = 0xA7 (R189) -/
  | sT_Wtmu1 (a : RegAccess)
  /-- sDrawTriCMD, n = 0xA8 (R221) -/
  | sDrawTriCMD (a : RegAccess)
  /-- sBeginTriCMD, n = 0xA9 (R220) -/
  | sBeginTriCMD (a : RegAccess)
  /-- the V2 2D blitter block, register number `n` in 0xB0..0xBF (R173) -/
  | blt (n : RegNum) (a : RegAccess)
  /-- textureMode, n = 0xC0 (R178) -/
  | textureMode (a : RegAccess)
  /-- tLOD, n = 0xC1 (R178) -/
  | tLOD (a : RegAccess)
  /-- tDetail, n = 0xC2 (R178) -/
  | tDetail (a : RegAccess)
  /-- texBaseAddr, n = 0xC3 (R178) -/
  | texBaseAddr (a : RegAccess)
  /-- texBaseAddr_1, n = 0xC4 (R178) -/
  | texBaseAddr_1 (a : RegAccess)
  /-- texBaseAddr_2, n = 0xC5 (R178) -/
  | texBaseAddr_2 (a : RegAccess)
  /-- texBaseAddr_3_8, n = 0xC6 (R178) -/
  | texBaseAddr_3_8 (a : RegAccess)
  /-- trexInit0, n = 0xC7 (R178) -/
  | trexInit0 (a : RegAccess)
  /-- trexInit1, n = 0xC8 (R178) -/
  | trexInit1 (a : RegAccess)
  /-- nccTable0[0], n = 0xC9 (R179) -/
  | nccTable0_0 (a : RegAccess)
  /-- nccTable0[1], n = 0xCA (R179) -/
  | nccTable0_1 (a : RegAccess)
  /-- nccTable0[2], n = 0xCB (R179) -/
  | nccTable0_2 (a : RegAccess)
  /-- nccTable0[3], n = 0xCC (R179) -/
  | nccTable0_3 (a : RegAccess)
  /-- nccTable0[4], n = 0xCD (R179) -/
  | nccTable0_4 (a : RegAccess)
  /-- nccTable0[5], n = 0xCE (R179) -/
  | nccTable0_5 (a : RegAccess)
  /-- nccTable0[6], n = 0xCF (R179) -/
  | nccTable0_6 (a : RegAccess)
  /-- nccTable0[7], n = 0xD0 (R179) -/
  | nccTable0_7 (a : RegAccess)
  /-- nccTable0[8], n = 0xD1 (R179) -/
  | nccTable0_8 (a : RegAccess)
  /-- nccTable0[9], n = 0xD2 (R179) -/
  | nccTable0_9 (a : RegAccess)
  /-- nccTable0[10], n = 0xD3 (R179) -/
  | nccTable0_10 (a : RegAccess)
  /-- nccTable0[11], n = 0xD4 (R179) -/
  | nccTable0_11 (a : RegAccess)
  /-- nccTable1[0], n = 0xD5 (R179) -/
  | nccTable1_0 (a : RegAccess)
  /-- nccTable1[1], n = 0xD6 (R179) -/
  | nccTable1_1 (a : RegAccess)
  /-- nccTable1[2], n = 0xD7 (R179) -/
  | nccTable1_2 (a : RegAccess)
  /-- nccTable1[3], n = 0xD8 (R179) -/
  | nccTable1_3 (a : RegAccess)
  /-- nccTable1[4], n = 0xD9 (R179) -/
  | nccTable1_4 (a : RegAccess)
  /-- nccTable1[5], n = 0xDA (R179) -/
  | nccTable1_5 (a : RegAccess)
  /-- nccTable1[6], n = 0xDB (R179) -/
  | nccTable1_6 (a : RegAccess)
  /-- nccTable1[7], n = 0xDC (R179) -/
  | nccTable1_7 (a : RegAccess)
  /-- nccTable1[8], n = 0xDD (R179) -/
  | nccTable1_8 (a : RegAccess)
  /-- nccTable1[9], n = 0xDE (R179) -/
  | nccTable1_9 (a : RegAccess)
  /-- nccTable1[10], n = 0xDF (R179) -/
  | nccTable1_10 (a : RegAccess)
  /-- nccTable1[11], n = 0xE0 (R179) -/
  | nccTable1_11 (a : RegAccess)
  /-- lfb.wr, LFB word offset `l` (R380) -/
  | lfbWr (l : BitVec 20) (data : Word)
  /-- lfb.rd, LFB word offset `l` (R390) -/
  | lfbRd (l : BitVec 20)
  /-- tex.wr: unit, level, row and column word of 30_encoding.md R136 (R290) -/
  | texWr (unit : BitVec 2) (lod : BitVec 4) (row : BitVec 8) (sword : BitVec 7) (data : Word)
  /-- tex.rd (R182) -/
  | texRd (unit : BitVec 2) (lod : BitVec 4) (row : BitVec 8) (sword : BitVec 7)
deriving DecidableEq, Repr

end Sys2Proof
end

