-- ==== Sys2Proof/WellFormed.lean ====
section
/-! DEFINITION. The checks an instruction and an instance of the block must pass. -/

namespace Sys2Proof

/-- A transaction is well formed when its blitter register number, if it has one, lies in 0xB0..0xBF
(10_state.md R30). Every other operand is well formed by its type: a field has exactly its encoding's bits. -/
def Instr.wellFormed (i : Instr) : Bool :=
  match i with
  | .blt n _ => n.extractLsb' 4 4 == 0xB#4
  | _ => true

/-- CHIPMASK is one of its legal values (10_state.md R22). -/
def Params.chipmaskLegal (p : Params) : Bool :=
  p.chipmask == 0x1#4 || p.chipmask == 0x3#4 || p.chipmask == 0x7#4

/-- FB_SIZE is not below FB_MIN (60_exceptions.md R402, FbTooSmall). -/
def Params.fbLargeEnough (p : Params) : Bool :=
  decide (p.fbMinBits ≤ p.fbBits)

/-- A present TMU's TEX_SIZE is not below TEX_MIN (60_exceptions.md R402, TexTooSmall). -/
def Params.texLargeEnough (p : Params) : Bool :=
  (!p.chipmask.getLsbD 1 || decide (p.texMinBits ≤ p.texBits0)) &&
    (!p.chipmask.getLsbD 2 || decide (p.texMinBits ≤ p.texBits1))

/-- CACHE_RESERVED is below 1024 (92_eei_decisions.md D28). -/
def Params.reservedLegal (p : Params) : Bool :=
  decide (p.cacheReserved < Config.cacheCapacity)

/-- The parameters describe a block that construction accepts. -/
def Params.wellFormed (p : Params) : Bool :=
  p.chipmaskLegal && p.fbLargeEnough && p.texLargeEnough && p.reservedLegal

end Sys2Proof
end

