-- ==== Sys2Proof/Decode.lean ====
section
/-! DEFINITION. Decoding a bus request into a transaction, total, rejecting by name (30_encoding.md R130 to R137), and the
encoder after it. -/

namespace Sys2Proof

/-- Why a bus request is no transaction of the table. -/
inductive DecodeError where
  /-- narrower than 32 bits (20_memory.md R102) -/
  | narrow
  /-- a register number without a row, hence without access flags, after the alternate map (30_encoding.md R137 (a)) -/
  | reserved (n : RegNum) (a : RegAccess)
deriving DecidableEq, Repr

/-- The alias table of 30_encoding.md R134: entry `i` is the register number that replaces `i`. -/
def aliasTable : List RegNum :=
  [0x00, 0x01, 0x02, 0x03, 0x04, 0x05, 0x06, 0x07,
   0x08, 0x10, 0x18, 0x09, 0x11, 0x19, 0x0A, 0x12,
   0x1A, 0x0B, 0x13, 0x1B, 0x0C, 0x14, 0x1C, 0x0D,
   0x15, 0x1D, 0x0E, 0x16, 0x1E, 0x0F, 0x17, 0x1F,
   0x20, 0x21, 0x22, 0x23, 0x24, 0x25, 0x26, 0x27,
   0x28, 0x30, 0x38, 0x29, 0x31, 0x39, 0x2A, 0x32,
   0x3A, 0x2B, 0x33, 0x3B, 0x2C, 0x34, 0x3C, 0x2D,
   0x35, 0x3D, 0x2E, 0x36, 0x3E, 0x2F, 0x37, 0x3F]

/-- The register number after the alternate map: `remap` is fbiInit3.tri_register_remap and `altsel` is `W[19]`
(30_encoding.md R133). -/
def aliasNum (remap altsel : Bool) (n : RegNum) : RegNum :=
  if remap && altsel && decide (n.toNat < 0x40) then aliasTable.getD n.toNat n else n

/-- Register rows 0x00 to 0x21 of opcode_table.json. -/
def paramFixedRows : List (RegNum × (RegAccess → Instr)) :=
  [(0x00, .status),
   (0x01, .intrCtrl),
   (0x02, .vertexAx),
   (0x03, .vertexAy),
   (0x04, .vertexBx),
   (0x05, .vertexBy),
   (0x06, .vertexCx),
   (0x07, .vertexCy),
   (0x08, .startR),
   (0x09, .startG),
   (0x0A, .startB),
   (0x0B, .startZ),
   (0x0C, .startA),
   (0x0D, .startS),
   (0x0E, .startT),
   (0x0F, .startW),
   (0x10, .dRdX),
   (0x11, .dGdX),
   (0x12, .dBdX),
   (0x13, .dZdX),
   (0x14, .dAdX),
   (0x15, .dSdX),
   (0x16, .dTdX),
   (0x17, .dWdX),
   (0x18, .dRdY),
   (0x19, .dGdY),
   (0x1A, .dBdY),
   (0x1B, .dZdY),
   (0x1C, .dAdY),
   (0x1D, .dSdY),
   (0x1E, .dTdY),
   (0x1F, .dWdY),
   (0x20, .triangleCMD)]

/-- Register rows 0x22 to 0x40 of opcode_table.json. -/
def paramFloatRows : List (RegNum × (RegAccess → Instr)) :=
  [(0x22, .fvertexAx),
   (0x23, .fvertexAy),
   (0x24, .fvertexBx),
   (0x25, .fvertexBy),
   (0x26, .fvertexCx),
   (0x27, .fvertexCy),
   (0x28, .fstartR),
   (0x29, .fstartG),
   (0x2A, .fstartB),
   (0x2B, .fstartZ),
   (0x2C, .fstartA),
   (0x2D, .fstartS),
   (0x2E, .fstartT),
   (0x2F, .fstartW),
   (0x30, .fdRdX),
   (0x31, .fdGdX),
   (0x32, .fdBdX),
   (0x33, .fdZdX),
   (0x34, .fdAdX),
   (0x35, .fdSdX),
   (0x36, .fdTdX),
   (0x37, .fdWdX),
   (0x38, .fdRdY),
   (0x39, .fdGdY),
   (0x3A, .fdBdY),
   (0x3B, .fdZdY),
   (0x3C, .fdAdY),
   (0x3D, .fdSdY),
   (0x3E, .fdTdY),
   (0x3F, .fdWdY),
   (0x40, .ftriangleCMD)]

/-- Register rows 0x41 to 0x57 of opcode_table.json. -/
def renderRows : List (RegNum × (RegAccess → Instr)) :=
  [(0x41, .fbzColorPath),
   (0x42, .fogMode),
   (0x43, .alphaMode),
   (0x44, .fbzMode),
   (0x45, .lfbMode),
   (0x46, .clipLeftRight),
   (0x47, .clipLowYHighY),
   (0x48, .nopCMD),
   (0x49, .fastfillCMD),
   (0x4A, .swapbufferCMD),
   (0x4B, .fogColor),
   (0x4C, .zaColor),
   (0x4D, .chromaKey),
   (0x4E, .chromaRange),
   (0x4F, .userIntrCMD),
   (0x50, .stipple),
   (0x51, .color0),
   (0x52, .color1),
   (0x53, .fbiPixelsIn),
   (0x54, .fbiChromaFail),
   (0x55, .fbiZfuncFail),
   (0x56, .fbiAfuncFail),
   (0x57, .fbiPixelsOut)]

/-- Register rows 0x58 to 0x7F of opcode_table.json. -/
def fogRows : List (RegNum × (RegAccess → Instr)) :=
  [(0x58, .fogTable0),
   (0x59, .fogTable1),
   (0x5A, .fogTable2),
   (0x5B, .fogTable3),
   (0x5C, .fogTable4),
   (0x5D, .fogTable5),
   (0x5E, .fogTable6),
   (0x5F, .fogTable7),
   (0x60, .fogTable8),
   (0x61, .fogTable9),
   (0x62, .fogTable10),
   (0x63, .fogTable11),
   (0x64, .fogTable12),
   (0x65, .fogTable13),
   (0x66, .fogTable14),
   (0x67, .fogTable15),
   (0x68, .fogTable16),
   (0x69, .fogTable17),
   (0x6A, .fogTable18),
   (0x6B, .fogTable19),
   (0x6C, .fogTable20),
   (0x6D, .fogTable21),
   (0x6E, .fogTable22),
   (0x6F, .fogTable23),
   (0x70, .fogTable24),
   (0x71, .fogTable25),
   (0x72, .fogTable26),
   (0x73, .fogTable27),
   (0x74, .fogTable28),
   (0x75, .fogTable29),
   (0x76, .fogTable30),
   (0x77, .fogTable31),
   (0x78, .cmdFifoBaseAddr),
   (0x79, .cmdFifoBump),
   (0x7A, .cmdFifoRdPtr),
   (0x7B, .cmdFifoAMin),
   (0x7C, .cmdFifoAMax),
   (0x7D, .cmdFifoDepth),
   (0x7E, .cmdFifoHoles)]

/-- Register rows 0x80 to 0x97 of opcode_table.json. -/
def initRows : List (RegNum × (RegAccess → Instr)) :=
  [(0x80, .fbiInit4),
   (0x81, .vRetrace),
   (0x82, .backPorch),
   (0x83, .videoDimensions),
   (0x84, .fbiInit0),
   (0x85, .fbiInit1),
   (0x86, .fbiInit2),
   (0x87, .fbiInit3),
   (0x88, .hSync),
   (0x89, .vSync),
   (0x8A, .clutData),
   (0x8B, .dacData),
   (0x8C, .maxRgbDelta),
   (0x8D, .hBorder),
   (0x8E, .vBorder),
   (0x8F, .borderColor),
   (0x90, .hvRetrace),
   (0x91, .fbiInit5),
   (0x92, .fbiInit6),
   (0x93, .fbiInit7),
   (0x96, .fbiSwapHistory),
   (0x97, .fbiTrianglesOut)]

/-- Register rows 0x98 to 0xA9 of opcode_table.json. -/
def setupRows : List (RegNum × (RegAccess → Instr)) :=
  [(0x98, .sSetupMode),
   (0x99, .sVx),
   (0x9A, .sVy),
   (0x9B, .sARGB),
   (0x9C, .sRed),
   (0x9D, .sGreen),
   (0x9E, .sBlue),
   (0x9F, .sAlpha),
   (0xA0, .sVz),
   (0xA1, .sWb),
   (0xA2, .sWtmu0),
   (0xA3, .sS_W0),
   (0xA4, .sT_W0),
   (0xA5, .sWtmu1),
   (0xA6, .sS_Wtmu1),
   (0xA7, .sT_Wtmu1),
   (0xA8, .sDrawTriCMD),
   (0xA9, .sBeginTriCMD)]

/-- Register rows 0xC0 to 0xE0 of opcode_table.json. -/
def tmuRows : List (RegNum × (RegAccess → Instr)) :=
  [(0xC0, .textureMode),
   (0xC1, .tLOD),
   (0xC2, .tDetail),
   (0xC3, .texBaseAddr),
   (0xC4, .texBaseAddr_1),
   (0xC5, .texBaseAddr_2),
   (0xC6, .texBaseAddr_3_8),
   (0xC7, .trexInit0),
   (0xC8, .trexInit1),
   (0xC9, .nccTable0_0),
   (0xCA, .nccTable0_1),
   (0xCB, .nccTable0_2),
   (0xCC, .nccTable0_3),
   (0xCD, .nccTable0_4),
   (0xCE, .nccTable0_5),
   (0xCF, .nccTable0_6),
   (0xD0, .nccTable0_7),
   (0xD1, .nccTable0_8),
   (0xD2, .nccTable0_9),
   (0xD3, .nccTable0_10),
   (0xD4, .nccTable0_11),
   (0xD5, .nccTable1_0),
   (0xD6, .nccTable1_1),
   (0xD7, .nccTable1_2),
   (0xD8, .nccTable1_3),
   (0xD9, .nccTable1_4),
   (0xDA, .nccTable1_5),
   (0xDB, .nccTable1_6),
   (0xDC, .nccTable1_7),
   (0xDD, .nccTable1_8),
   (0xDE, .nccTable1_9),
   (0xDF, .nccTable1_10),
   (0xE0, .nccTable1_11)]

/-- The register rows of opcode_table.json, but for the blitter block. -/
def regRows : List (RegNum × (RegAccess → Instr)) :=
  paramFixedRows ++ paramFloatRows ++ renderRows ++ fogRows ++ initRows ++ setupRows ++ tmuRows

/-- The transaction of register number `n`, after the alternate map (10_state.md R30). -/
def decodeReg (n : RegNum) (a : RegAccess) : Except DecodeError Instr :=
  if n.extractLsb' 4 4 = 0xB#4 then .ok (.blt n a)
  else match regRows.lookup n with
    | some row => .ok (row a)
    | none => .error (.reserved n a)

/-- The access a request makes to a register (30_encoding.md R131): `chipsel = A[13:10]`. -/
def requestAccess (q : BusRequest) : RegAccess :=
  match q.kind with
  | .rd => .read
  | .wr => .write (q.addr.extractLsb' 10 4) q.data

/-- Decoding (30_encoding.md R130): the space test of 20_memory.md R100, then the fields of R131, R135 or R136.
`remap` is the state item fbiInit3.tri_register_remap (R133, R148). -/
def decode (remap : Bool) (q : BusRequest) : Except DecodeError Instr :=
  match q.size with
  | .narrow => .error .narrow
  | .full =>
    if q.addr.getLsbD 23 then
      let unit := q.addr.extractLsb' 21 2
      let lod := q.addr.extractLsb' 17 4
      let row := q.addr.extractLsb' 9 8
      let sword := q.addr.extractLsb' 2 7
      match q.kind with
      | .wr => .ok (.texWr unit lod row sword q.data)
      | .rd => .ok (.texRd unit lod row sword)
    else if q.addr.getLsbD 22 then
      match q.kind with
      | .wr => .ok (.lfbWr (q.addr.extractLsb' 2 20) q.data)
      | .rd => .ok (.lfbRd (q.addr.extractLsb' 2 20))
    else
      decodeReg (aliasNum remap (q.addr.getLsbD 21) (q.addr.extractLsb' 2 8)) (requestAccess q)

/-- A request read from one number (log entry 24): bits 23..0 the byte address, which is what opcode_table.json
numbers; bit 24 the kind (0 a write, 1 a read); bit 25 set for a request narrower than 32 bits; bits 63..32 the data
word. -/
def BusRequest.ofBits (w : Nat) : BusRequest where
  kind := if w.testBit 24 then .rd else .wr
  size := if w.testBit 25 then .narrow else .full
  addr := BitVec.ofNat 24 w
  data := BitVec.ofNat 32 (w >>> 32)

/-- The transaction the decoder reads from a table word; every bit above `nbits` is 0. -/
def decodeTableWord (nbits w : Nat) : Option Instr :=
  (decode false (BusRequest.ofBits (w % 2 ^ nbits))).toOption

/-- The address of register `n` with a chip-select field (30_encoding.md R131): the space and altsel bits and the
ignored bits are 0. -/
def regAddr (chipsel : ChipSet) (n : RegNum) : BitVec 24 :=
  (0#10 ++ chipsel ++ n ++ 0#2 : BitVec 24)

/-- The request of an access to register `n`. -/
def regRequest (n : RegNum) (a : RegAccess) : BusRequest :=
  match a with
  | .read => ⟨.rd, .full, regAddr 0 n, 0⟩
  | .write chipsel data => ⟨.wr, .full, regAddr chipsel n, data⟩

/-- The address of an LFB word (30_encoding.md R135). -/
def lfbAddr (l : BitVec 20) : BitVec 24 :=
  (1#2 ++ l ++ 0#2 : BitVec 24)

/-- The address of a texture word (30_encoding.md R136). -/
def texAddr (unit : BitVec 2) (lod : BitVec 4) (row : BitVec 8) (sword : BitVec 7) : BitVec 24 :=
  (1#1 ++ unit ++ lod ++ row ++ sword ++ 0#2 : BitVec 24)

/-- The encoder: the bus request of a transaction, with the alternate map not selected and every ignored bit 0. -/
def encode (i : Instr) : BusRequest :=
  match i with
  | .status a => regRequest 0x00 a
  | .intrCtrl a => regRequest 0x01 a
  | .vertexAx a => regRequest 0x02 a
  | .vertexAy a => regRequest 0x03 a
  | .vertexBx a => regRequest 0x04 a
  | .vertexBy a => regRequest 0x05 a
  | .vertexCx a => regRequest 0x06 a
  | .vertexCy a => regRequest 0x07 a
  | .startR a => regRequest 0x08 a
  | .startG a => regRequest 0x09 a
  | .startB a => regRequest 0x0A a
  | .startZ a => regRequest 0x0B a
  | .startA a => regRequest 0x0C a
  | .startS a => regRequest 0x0D a
  | .startT a => regRequest 0x0E a
  | .startW a => regRequest 0x0F a
  | .dRdX a => regRequest 0x10 a
  | .dGdX a => regRequest 0x11 a
  | .dBdX a => regRequest 0x12 a
  | .dZdX a => regRequest 0x13 a
  | .dAdX a => regRequest 0x14 a
  | .dSdX a => regRequest 0x15 a
  | .dTdX a => regRequest 0x16 a
  | .dWdX a => regRequest 0x17 a
  | .dRdY a => regRequest 0x18 a
  | .dGdY a => regRequest 0x19 a
  | .dBdY a => regRequest 0x1A a
  | .dZdY a => regRequest 0x1B a
  | .dAdY a => regRequest 0x1C a
  | .dSdY a => regRequest 0x1D a
  | .dTdY a => regRequest 0x1E a
  | .dWdY a => regRequest 0x1F a
  | .triangleCMD a => regRequest 0x20 a
  | .fvertexAx a => regRequest 0x22 a
  | .fvertexAy a => regRequest 0x23 a
  | .fvertexBx a => regRequest 0x24 a
  | .fvertexBy a => regRequest 0x25 a
  | .fvertexCx a => regRequest 0x26 a
  | .fvertexCy a => regRequest 0x27 a
  | .fstartR a => regRequest 0x28 a
  | .fstartG a => regRequest 0x29 a
  | .fstartB a => regRequest 0x2A a
  | .fstartZ a => regRequest 0x2B a
  | .fstartA a => regRequest 0x2C a
  | .fstartS a => regRequest 0x2D a
  | .fstartT a => regRequest 0x2E a
  | .fstartW a => regRequest 0x2F a
  | .fdRdX a => regRequest 0x30 a
  | .fdGdX a => regRequest 0x31 a
  | .fdBdX a => regRequest 0x32 a
  | .fdZdX a => regRequest 0x33 a
  | .fdAdX a => regRequest 0x34 a
  | .fdSdX a => regRequest 0x35 a
  | .fdTdX a => regRequest 0x36 a
  | .fdWdX a => regRequest 0x37 a
  | .fdRdY a => regRequest 0x38 a
  | .fdGdY a => regRequest 0x39 a
  | .fdBdY a => regRequest 0x3A a
  | .fdZdY a => regRequest 0x3B a
  | .fdAdY a => regRequest 0x3C a
  | .fdSdY a => regRequest 0x3D a
  | .fdTdY a => regRequest 0x3E a
  | .fdWdY a => regRequest 0x3F a
  | .ftriangleCMD a => regRequest 0x40 a
  | .fbzColorPath a => regRequest 0x41 a
  | .fogMode a => regRequest 0x42 a
  | .alphaMode a => regRequest 0x43 a
  | .fbzMode a => regRequest 0x44 a
  | .lfbMode a => regRequest 0x45 a
  | .clipLeftRight a => regRequest 0x46 a
  | .clipLowYHighY a => regRequest 0x47 a
  | .nopCMD a => regRequest 0x48 a
  | .fastfillCMD a => regRequest 0x49 a
  | .swapbufferCMD a => regRequest 0x4A a
  | .fogColor a => regRequest 0x4B a
  | .zaColor a => regRequest 0x4C a
  | .chromaKey a => regRequest 0x4D a
  | .chromaRange a => regRequest 0x4E a
  | .userIntrCMD a => regRequest 0x4F a
  | .stipple a => regRequest 0x50 a
  | .color0 a => regRequest 0x51 a
  | .color1 a => regRequest 0x52 a
  | .fbiPixelsIn a => regRequest 0x53 a
  | .fbiChromaFail a => regRequest 0x54 a
  | .fbiZfuncFail a => regRequest 0x55 a
  | .fbiAfuncFail a => regRequest 0x56 a
  | .fbiPixelsOut a => regRequest 0x57 a
  | .fogTable0 a => regRequest 0x58 a
  | .fogTable1 a => regRequest 0x59 a
  | .fogTable2 a => regRequest 0x5A a
  | .fogTable3 a => regRequest 0x5B a
  | .fogTable4 a => regRequest 0x5C a
  | .fogTable5 a => regRequest 0x5D a
  | .fogTable6 a => regRequest 0x5E a
  | .fogTable7 a => regRequest 0x5F a
  | .fogTable8 a => regRequest 0x60 a
  | .fogTable9 a => regRequest 0x61 a
  | .fogTable10 a => regRequest 0x62 a
  | .fogTable11 a => regRequest 0x63 a
  | .fogTable12 a => regRequest 0x64 a
  | .fogTable13 a => regRequest 0x65 a
  | .fogTable14 a => regRequest 0x66 a
  | .fogTable15 a => regRequest 0x67 a
  | .fogTable16 a => regRequest 0x68 a
  | .fogTable17 a => regRequest 0x69 a
  | .fogTable18 a => regRequest 0x6A a
  | .fogTable19 a => regRequest 0x6B a
  | .fogTable20 a => regRequest 0x6C a
  | .fogTable21 a => regRequest 0x6D a
  | .fogTable22 a => regRequest 0x6E a
  | .fogTable23 a => regRequest 0x6F a
  | .fogTable24 a => regRequest 0x70 a
  | .fogTable25 a => regRequest 0x71 a
  | .fogTable26 a => regRequest 0x72 a
  | .fogTable27 a => regRequest 0x73 a
  | .fogTable28 a => regRequest 0x74 a
  | .fogTable29 a => regRequest 0x75 a
  | .fogTable30 a => regRequest 0x76 a
  | .fogTable31 a => regRequest 0x77 a
  | .cmdFifoBaseAddr a => regRequest 0x78 a
  | .cmdFifoBump a => regRequest 0x79 a
  | .cmdFifoRdPtr a => regRequest 0x7A a
  | .cmdFifoAMin a => regRequest 0x7B a
  | .cmdFifoAMax a => regRequest 0x7C a
  | .cmdFifoDepth a => regRequest 0x7D a
  | .cmdFifoHoles a => regRequest 0x7E a
  | .fbiInit4 a => regRequest 0x80 a
  | .vRetrace a => regRequest 0x81 a
  | .backPorch a => regRequest 0x82 a
  | .videoDimensions a => regRequest 0x83 a
  | .fbiInit0 a => regRequest 0x84 a
  | .fbiInit1 a => regRequest 0x85 a
  | .fbiInit2 a => regRequest 0x86 a
  | .fbiInit3 a => regRequest 0x87 a
  | .hSync a => regRequest 0x88 a
  | .vSync a => regRequest 0x89 a
  | .clutData a => regRequest 0x8A a
  | .dacData a => regRequest 0x8B a
  | .maxRgbDelta a => regRequest 0x8C a
  | .hBorder a => regRequest 0x8D a
  | .vBorder a => regRequest 0x8E a
  | .borderColor a => regRequest 0x8F a
  | .hvRetrace a => regRequest 0x90 a
  | .fbiInit5 a => regRequest 0x91 a
  | .fbiInit6 a => regRequest 0x92 a
  | .fbiInit7 a => regRequest 0x93 a
  | .fbiSwapHistory a => regRequest 0x96 a
  | .fbiTrianglesOut a => regRequest 0x97 a
  | .sSetupMode a => regRequest 0x98 a
  | .sVx a => regRequest 0x99 a
  | .sVy a => regRequest 0x9A a
  | .sARGB a => regRequest 0x9B a
  | .sRed a => regRequest 0x9C a
  | .sGreen a => regRequest 0x9D a
  | .sBlue a => regRequest 0x9E a
  | .sAlpha a => regRequest 0x9F a
  | .sVz a => regRequest 0xA0 a
  | .sWb a => regRequest 0xA1 a
  | .sWtmu0 a => regRequest 0xA2 a
  | .sS_W0 a => regRequest 0xA3 a
  | .sT_W0 a => regRequest 0xA4 a
  | .sWtmu1 a => regRequest 0xA5 a
  | .sS_Wtmu1 a => regRequest 0xA6 a
  | .sT_Wtmu1 a => regRequest 0xA7 a
  | .sDrawTriCMD a => regRequest 0xA8 a
  | .sBeginTriCMD a => regRequest 0xA9 a
  | .blt n a => regRequest n a
  | .textureMode a => regRequest 0xC0 a
  | .tLOD a => regRequest 0xC1 a
  | .tDetail a => regRequest 0xC2 a
  | .texBaseAddr a => regRequest 0xC3 a
  | .texBaseAddr_1 a => regRequest 0xC4 a
  | .texBaseAddr_2 a => regRequest 0xC5 a
  | .texBaseAddr_3_8 a => regRequest 0xC6 a
  | .trexInit0 a => regRequest 0xC7 a
  | .trexInit1 a => regRequest 0xC8 a
  | .nccTable0_0 a => regRequest 0xC9 a
  | .nccTable0_1 a => regRequest 0xCA a
  | .nccTable0_2 a => regRequest 0xCB a
  | .nccTable0_3 a => regRequest 0xCC a
  | .nccTable0_4 a => regRequest 0xCD a
  | .nccTable0_5 a => regRequest 0xCE a
  | .nccTable0_6 a => regRequest 0xCF a
  | .nccTable0_7 a => regRequest 0xD0 a
  | .nccTable0_8 a => regRequest 0xD1 a
  | .nccTable0_9 a => regRequest 0xD2 a
  | .nccTable0_10 a => regRequest 0xD3 a
  | .nccTable0_11 a => regRequest 0xD4 a
  | .nccTable1_0 a => regRequest 0xD5 a
  | .nccTable1_1 a => regRequest 0xD6 a
  | .nccTable1_2 a => regRequest 0xD7 a
  | .nccTable1_3 a => regRequest 0xD8 a
  | .nccTable1_4 a => regRequest 0xD9 a
  | .nccTable1_5 a => regRequest 0xDA a
  | .nccTable1_6 a => regRequest 0xDB a
  | .nccTable1_7 a => regRequest 0xDC a
  | .nccTable1_8 a => regRequest 0xDD a
  | .nccTable1_9 a => regRequest 0xDE a
  | .nccTable1_10 a => regRequest 0xDF a
  | .nccTable1_11 a => regRequest 0xE0 a
  | .lfbWr l data => ⟨.wr, .full, lfbAddr l, data⟩
  | .lfbRd l => ⟨.rd, .full, lfbAddr l, 0⟩
  | .texWr unit lod row sword data => ⟨.wr, .full, texAddr unit lod row sword, data⟩
  | .texRd unit lod row sword => ⟨.rd, .full, texAddr unit lod row sword, 0⟩

end Sys2Proof
end

