-- ==== Sys2Proof/Machine/State.lean ====
section
/-! DEFINITION. The state of the block, plain data: every piece of state of 10_state.md R20 to R73, its ports, and reset. -/

namespace Sys2Proof.Machine

/-- Sparse data by index, in one canonical form: indices strictly rising and no entry equal to what an unlisted index
reads as (the functions over it are in Machine/Ops.lean). -/
abbrev Table (α : Type) := List (Nat × α)

/-- A memory of bytes: a table whose unlisted addresses read as `Memory.unlisted` (Machine/Ops.lean). -/
abbrev Memory := List Host.Cell

/-- A colour `(a, r, g, b)` of `int` channels (00_scope.md R13). -/
structure Argb where
  a : Int
  r : Int
  g : Int
  b : Int
deriving DecidableEq, Repr

/-- A 32-bit interpolated parameter: its start value and its X and Y deltas (10_state.md R61). -/
structure Grad32 where
  start : Word
  dx : Word
  dy : Word
deriving DecidableEq, Repr

/-- A 64-bit interpolated parameter with 32 fraction bits (10_state.md R61, R62). -/
structure Grad64 where
  start : Wide
  dx : Wide
  dy : Wide
deriving DecidableEq, Repr

/-- The FBI iterator state (10_state.md R61): `ax` to `cy` in 12.4, colours in 12.12, `z` in 20.12, `w` with 32 fraction
bits, and the sign of the last triangle command. -/
structure FbiIter where
  vax : Half
  vay : Half
  vbx : Half
  vby : Half
  vcx : Half
  vcy : Half
  r : Grad32
  g : Grad32
  b : Grad32
  a : Grad32
  z : Grad32
  w : Grad64
  sign : Bool
deriving DecidableEq, Repr

/-- Three s9 values, one entry of `I` or `Q` (10_state.md R56). -/
structure NccTriple where
  r : BitVec 9
  g : BitVec 9
  b : BitVec 9
deriving DecidableEq, Repr

/-- An NCC table (10_state.md R63): sixteen `Y`, four `I`, four `Q`, the dirty flag and the generated 256 ARGB texels. -/
structure NccTable where
  y : Table Byte
  i : Table NccTriple
  q : Table NccTriple
  dirty : Bool
  texel : List Word
deriving DecidableEq, Repr

/-- A texture-mapping unit: iterators (10_state.md R62), derived state (R60), NCC tables (R63), palette (R64) and texture
memory (20_memory.md R105). Its registers are slots of the register file. -/
structure Tmu where
  s : Grad64
  t : Grad64
  w : Grad64
  dirty : Bool
  lodmin : Int
  lodmax : Int
  lodbias : Int
  lodmask : BitVec 9
  lodoffset : List Nat
  wmask : Byte
  hmask : Byte
  bppscale : Nat
  detailmax : Int
  detailbias : Int
  detailscale : Nat
  /-- the selected lookup table (R60): its format code -/
  lookupFormat : BitVec 4
  /-- the selected lookup table (R60): the NCC table it uses -/
  lookupNcc : Bool
  /-- the refusal that R251 ends in (42_texture.md R254 (a)): the separate_rgba_filter bit (log entry 20) -/
  separateRgba : Bool
  lodbase : Int
  ncc0 : NccTable
  ncc1 : NccTable
  palette : Table (BitVec 24)
  ram : Memory
deriving DecidableEq, Repr

/-- A setup vertex of binary32 fields (10_state.md R67). -/
structure SetupVertex where
  x : Word
  y : Word
  z : Word
  wb : Word
  w0 : Word
  s0 : Word
  t0 : Word
  w1 : Word
  s1 : Word
  t1 : Word
  a : Word
  r : Word
  g : Word
  b : Word
deriving DecidableEq, Repr

/-- The setup-vertex buffer `svert[0..2]` and the count `sverts` (10_state.md R67). -/
structure SetupBuffer where
  v0 : SetupVertex
  v1 : SetupVertex
  v2 : SetupVertex
  sverts : Nat
deriving DecidableEq, Repr

/-- The statistics (10_state.md R50). The six register-visible counters are 24 bits wide (R47); the other two have no
register. -/
structure Stats where
  pixelsIn : BitVec 24
  chromaFail : BitVec 24
  zfuncFail : BitVec 24
  afuncFail : BitVec 24
  pixelsOut : BitVec 24
  trianglesOut : BitVec 24
  clipFail : Nat
  stippleFail : Nat
deriving DecidableEq, Repr

/-- The surface layout (10_state.md R69): byte offsets, `none` for NONE, the row pitch in pixels and the Y origin. -/
structure Surfaces where
  rgb0 : Option Nat
  rgb1 : Option Nat
  rgb2 : Option Nat
  aux : Option Nat
  rowpixels : Nat
  yorigin : BitVec 10
deriving DecidableEq, Repr

/-- Buffer selection and swap bookkeeping (10_state.md R70). -/
structure SwapState where
  front : Fin 3
  back : Fin 3
  vblankCount : Nat
  history : Word
  pending : Bool
  interval : Byte
  dontSwap : Bool
deriving DecidableEq, Repr

/-- A normalized render state, the key of the rasterizer cache (60_exceptions.md R403). -/
structure RenderKey where
  cp : Word
  am : Word
  fm : Word
  fbz : Word
  t0 : Word
  t1 : Word
deriving DecidableEq, Repr

/-- The log events (60_exceptions.md R401), with the values each records. -/
inductive LogEvent where
  | writeNotAllowed (n : RegNum) (data : Word)
  | readNotAllowed (n : RegNum)
  | chipDisabled (n : RegNum)
  | initDisabled (n : RegNum)
  | lfbReservedFormat (f : BitVec 4)
  | lfbReservedBuffer
  | texNoUnit (unit : BitVec 2)
  | texBadLod (lod : BitVec 4)
  | texReadUnsupported (w : BitVec 22)
deriving DecidableEq, Repr

/-- The events the block sends to the host (60_exceptions.md R410). -/
inductive HostEvent where
  | timingChanged (n : RegNum) (data : Word)
  | displaySwap (front : Fin 3)
deriving DecidableEq, Repr

/-- The values the display-timing collaborator supplies on demand (60_exceptions.md R410). -/
structure DisplaySample where
  vblank : Bool
  vpos : Word
  hpos : Word
deriving DecidableEq, Repr

/-- An input of the block (60_exceptions.md R410): a bus transaction, with the display values that hold while it runs
(log entry 13), or the VBlank event. -/
inductive HostInput where
  | bus (q : BusRequest) (display : DisplaySample)
  | vblank
deriving DecidableEq, Repr

/-- The refusals (60_exceptions.md R405, and the pipeline's own). Every one is safe: the spec makes no claim about what
follows. -/
inductive Refusal where
  /-- an instruction of the table that the model gives no meaning; raised by exec's refused arms only -/
  | notModelled (mnemonic : String)
  /-- a write to a V2 command-FIFO or blitter register (40_register_access.md R173) -/
  | undescribedRegister (n : RegNum)
  /-- a bus request narrower than 32 bits (20_memory.md R102); raised by the step -/
  | narrowRequest
  /-- a pixel samples a unit recomputed with V2 separate_rgba_filter set (42_texture.md R254 (a); log entry 20) -/
  | separateRgbaFilter
  /-- a texture write with V2 tdirect_write set (42_texture.md R254 (b)) -/
  | texDirectWrite
  /-- a pixel samples a reserved texel format (42_texture.md R254 (c)) -/
  | reservedTexelFormat
  /-- a pixel selects a level index of 9 or more (42_texture.md R254 (d)) -/
  | noSuchLevel
deriving DecidableEq, Repr

/-- The state of the block (10_state.md R20) and of its ports. -/
structure State where
  /-- the parameters of construction (00_scope.md R9) -/
  cfg : Params
  /-- the raw register file: slot `256*c + n` (10_state.md R21); an unlisted slot holds 0 -/
  regs : Table Word
  /-- the FBI iterators (10_state.md R61) -/
  fbi : FbiIter
  /-- TMU 0 -/
  tmu0 : Tmu
  /-- TMU 1 -/
  tmu1 : Tmu
  /-- the setup-vertex buffer (10_state.md R67) -/
  setup : SetupBuffer
  /-- `fogblend[0..63]` (10_state.md R43); an unlisted entry is 0 -/
  fogBlend : Table Byte
  /-- `fogdelta[0..63]` (10_state.md R43); an unlisted entry is 0 -/
  fogDelta : Table Byte
  /-- the statistics (10_state.md R50) -/
  stats : Stats
  /-- the surface layout (10_state.md R69) -/
  surf : Surfaces
  /-- buffer selection and swap (10_state.md R70) -/
  swap : SwapState
  /-- frame-buffer memory (10_state.md R68) -/
  fbram : Memory
  /-- the distinct render states seen by triangles (10_state.md R71), each once -/
  cacheStates : List RenderKey
  /-- a fatal error has been raised (10_state.md R72) -/
  fatal : Bool
  /-- the log of protocol violations, oldest first (10_state.md R72) -/
  log : List LogEvent
  /-- the host's inputs the block has not yet taken, oldest first (log entry 11) -/
  inbox : List HostInput
  /-- the display values of the transaction being run (log entry 13) -/
  display : DisplaySample
  /-- the result of the last read (60_exceptions.md R410) -/
  readData : Word
  /-- the events sent to the host, oldest first (60_exceptions.md R410) -/
  hostEvents : List HostEvent
  /-- how many unconstrained draws have been used: the model's own counter (log entry 14) -/
  draws : Nat
deriving DecidableEq, Repr

/-- The fatal errors (60_exceptions.md R402). Every one is safe: the block stops where the spec says it does. -/
inductive Fault where
  /-- a triangle needs a new cache entry and the cache is full; raised by the cache lookup (R404), with the state it leaves:
  the steps of the triangle before the lookup have run and `fatal` is set (R402; log entry 26) -/
  | cacheFull (left : State)
  /-- FB_SIZE is below FB_MIN; raised by construction, which leaves no state at all (R402) -/
  | fbTooSmall
  /-- the TEX_SIZE of a present TMU is below TEX_MIN; raised by construction, which leaves no state at all (R402) -/
  | texTooSmall (u : TmuId)
  /-- the block has raised a fatal error before and takes no further step; raised by the step (R402) -/
  | stopped
deriving DecidableEq, Repr

/-- What a step of the block answers. -/
abbrev Out := Host.Outcome State Fault Refusal

def Grad32.zero : Grad32 := ⟨0, 0, 0⟩

def Grad64.zero : Grad64 := ⟨0, 0, 0⟩

/-- An NCC table at reset (70_reset_and_hazards.md R431): coefficients 0, dirty; the generated table is unspecified and
never read before regeneration (log entry 4). -/
def NccTable.reset : NccTable where
  y := []
  i := []
  q := []
  dirty := true
  texel := []

/-- A TMU at reset (70_reset_and_hazards.md R431): dirty; the derived fields are unspecified and never read before the
first recomputation (log entry 4). -/
def Tmu.reset : Tmu where
  s := .zero
  t := .zero
  w := .zero
  dirty := true
  lodmin := 0
  lodmax := 0
  lodbias := 0
  lodmask := 0
  lodoffset := []
  wmask := 0
  hmask := 0
  bppscale := 0
  detailmax := 0
  detailbias := 0
  detailscale := 0
  lookupFormat := 0
  lookupNcc := false
  separateRgba := false
  lodbase := 0
  ncc0 := .reset
  ncc1 := .reset
  palette := []
  ram := []

def SetupVertex.zero : SetupVertex := ⟨0, 0, 0, 0, 0, 0, 0, 0, 0, 0, 0, 0, 0, 0⟩

def FbiIter.reset : FbiIter where
  vax := 0
  vay := 0
  vbx := 0
  vby := 0
  vcx := 0
  vcy := 0
  r := .zero
  g := .zero
  b := .zero
  a := .zero
  z := .zero
  w := .zero
  sign := false

/-- The state right after construction with parameters `p` (70_reset_and_hazards.md R430, R431). The init registers, which
R431 leaves unspecified, hold 0 (log entry 2), so the surfaces are FB_LAYOUT of zeros; the memories, which R431 leaves
unspecified, list nothing (log entry 3). -/
def State.resetWith (p : Params) : State where
  cfg := p
  regs := []
  fbi := .reset
  tmu0 := .reset
  tmu1 := .reset
  setup := ⟨.zero, .zero, .zero, 0⟩
  fogBlend := []
  fogDelta := []
  stats := ⟨0, 0, 0, 0, 0, 0, 0, 0⟩
  surf := ⟨some 0, none, none, none, 0, 0⟩
  swap := ⟨0, 1, 0, 0, false, 0, false⟩
  fbram := []
  cacheStates := []
  fatal := false
  log := []
  inbox := []
  display := ⟨false, 0, 0⟩
  readData := 0
  hostEvents := []
  draws := 0

/-- The machine right after reset, for the model's standard instance (log entry 1). -/
def State.reset : State := State.resetWith Params.standard

end Sys2Proof.Machine
end

