-- ==== Sys2Proof/Machine/Ops.lean ====
section
/-! DEFINITION. The named operations over tables, memories, registers and the ports, and the block's error outcomes. -/

namespace Sys2Proof.Machine

/-! ### Sequencing -/

/-- Continue with `f` when the outcome is a next state; a fault or a refusal ends the transaction. -/
def andThen (o : Out) (f : State → Out) : Out :=
  match o with
  | .next s => f s
  | .fault r => .fault r
  | .refused r => .refused r

/-- Run `f` for each element in order (20_memory.md R112). -/
def foldOut {α : Type} (f : α → State → Out) : List α → State → Out
  | [], s => .next s
  | a :: as, s => andThen (f a s) (foldOut f as)

/-- Apply `f` for each element in order. -/
def foldState {α : Type} (f : α → State → State) : List α → State → State
  | [], s => s
  | a :: as, s => foldState f as (f a s)

/-- The integers `lo ≤ i < hi`, increasing. -/
def intRange (lo hi : Int) : List Int :=
  (List.range (hi - lo).toNat).map fun k : Nat => lo + (k : Int)

/-- `clamp(v, lo, hi)` of 00_scope.md R11. -/
def clampInt (v lo hi : Int) : Int := min (max v lo) hi

/-! ### Bits -/

/-- The field `v[lo+len-1 : lo]` (00_scope.md R10). -/
def field {w : Nat} (v : BitVec w) (lo len : Nat) : BitVec len := v.extractLsb' lo len

/-- The field `v[lo+len-1 : lo]` as an unsigned number. -/
def fieldNat {w : Nat} (v : BitVec w) (lo len : Nat) : Nat := (field v lo len).toNat

/-- The single bit `v[i]` (00_scope.md R10). -/
def bit {w : Nat} (v : BitVec w) (i : Nat) : Bool := v.getLsbD i

/-- Byte reversal (20_memory.md R106). -/
def swizzle (v : Word) : Word := field v 0 8 ++ field v 8 8 ++ field v 16 8 ++ field v 24 8

/-- Exchange of the 16-bit halves (20_memory.md R106). -/
def wswap (v : Word) : Word := field v 0 16 ++ field v 16 16

/-- The number of leading zeros of a 32-bit value; 32 for 0. -/
def clz32 (v : Word) : Nat := if v = 0 then 32 else 31 - v.toNat.log2

/-! ### Tables -/

/-- The value at index `k` of a table whose unlisted entries read as `d`. -/
def readTable {α : Type} (d : α) : Table α → Nat → α
  | [], _ => d
  | (k, v) :: rest, a => if k = a then v else readTable d rest a

/-- Store `v` at index `a`, keeping the canonical form: storing the unlisted value removes the entry. -/
def writeTable {α : Type} [DecidableEq α] (d : α) : Table α → Nat → α → Table α
  | [], a, v => if v = d then [] else [(a, v)]
  | (k, w) :: rest, a, v =>
    if a < k then
      if v = d then (k, w) :: rest else (a, v) :: (k, w) :: rest
    else if a = k then
      if v = d then rest else (a, v) :: rest
    else (k, w) :: writeTable d rest a v

/-- Every index of the table is above `lo`, indices rise strictly, and no entry is the unlisted value. -/
def tableFrom {α : Type} [DecidableEq α] (d : α) (lo : Nat) : Table α → Bool
  | [] => true
  | (k, v) :: rest => decide (lo ≤ k) && decide (v ≠ d) && tableFrom d (k + 1) rest

/-- The canonical form of a table: equal tables are equal data. -/
def tableWf {α : Type} [DecidableEq α] (d : α) (t : Table α) : Bool := tableFrom d 0 t

/-- Every listed index is below `n`. -/
def tableBelow {α : Type} (n : Nat) (t : Table α) : Bool := t.all fun e => decide (e.1 < n)

/-! ### Memories -/

/-- What a byte reads as that nothing has written. DESIGN CHOICE (log entry 3): the spec leaves the reset contents of both
memories unspecified (70_reset_and_hazards.md R431). -/
def Memory.unlisted : Byte := 0

/-- The byte at address `a`. -/
def Memory.read (m : Memory) (a : Nat) : Byte := readTable Memory.unlisted m a

/-- Store a byte at address `a`. -/
def Memory.write (m : Memory) (a : Nat) (v : Byte) : Memory := writeTable Memory.unlisted m a v

/-- The canonical form of a memory. -/
def Memory.wf (m : Memory) : Bool := tableWf Memory.unlisted m

/-- The frame-buffer byte address that `i` masks to (10_state.md R68): `i & (FB_SIZE - 1)` on integers. -/
def fbByteAddr (p : Params) (i : Int) : Nat := (i % ((2 ^ p.fbBits : Nat) : Int)).toNat

/-- One byte of frame-buffer memory, by masked address. -/
def State.fbByte (s : State) (a : Nat) : Byte := Memory.read s.fbram a

/-- `FBRead16(a)` (20_memory.md R104): little-endian, both byte addresses masked. -/
def fbRead16 (s : State) (a : Int) : Half :=
  s.fbByte (fbByteAddr s.cfg (2 * a + 1)) ++ s.fbByte (fbByteAddr s.cfg (2 * a))

/-- `FBWrite16(a, v)` (20_memory.md R104). -/
def fbWrite16 (a : Int) (v : Half) (s : State) : State :=
  let low := Memory.write s.fbram (fbByteAddr s.cfg (2 * a)) (field v 0 8)
  { s with fbram := Memory.write low (fbByteAddr s.cfg (2 * a + 1)) (field v 8 8) }

/-- TMU `u`. -/
def State.tmu (s : State) (u : TmuId) : Tmu :=
  match u with
  | .t0 => s.tmu0
  | .t1 => s.tmu1

/-- Replace TMU `u`. -/
def State.setTmu (s : State) (u : TmuId) (t : Tmu) : State :=
  match u with
  | .t0 => { s with tmu0 := t }
  | .t1 => { s with tmu1 := t }

/-- The chip slot of TMU `u`, which is its bit of a chip set (10_state.md R21). -/
def chipOf (u : TmuId) : Nat :=
  match u with
  | .t0 => 1
  | .t1 => 2

/-- `TEX_SIZE[u]` as an exponent (00_scope.md R9). -/
def texBits (p : Params) (u : TmuId) : Nat :=
  match u with
  | .t0 => p.texBits0
  | .t1 => p.texBits1

/-- The address `a & (TEX_SIZE[u] - 1)` (20_memory.md R105). -/
def texMask (p : Params) (u : TmuId) (a : Nat) : Nat := a % 2 ^ texBits p u

/-- `TexRead8(u, a)` (20_memory.md R105). -/
def texRead8 (s : State) (u : TmuId) (a : Nat) : Byte := Memory.read (s.tmu u).ram (texMask s.cfg u a)

/-- `TexRead16(u, a)` (20_memory.md R105): little-endian, byte address `2a`. -/
def texRead16 (s : State) (u : TmuId) (a : Nat) : Half :=
  texRead8 s u (2 * a + 1) ++ texRead8 s u (2 * a)

/-- `TexWrite8(u, a, v)` (20_memory.md R105). -/
def texWrite8 (u : TmuId) (a : Nat) (v : Byte) (s : State) : State :=
  let t := s.tmu u
  s.setTmu u { t with ram := Memory.write t.ram (texMask s.cfg u a) v }

/-! ### The register file -/

/-- Slot `256*c + n` of the register file (10_state.md R21). -/
def slotOf (c : Nat) (n : RegNum) : Nat := 256 * c + n.toNat

/-- The content of slot `k` of the register file. -/
def State.slot (s : State) (k : Nat) : Word := readTable 0 s.regs k

/-- Register `n` of the FBI slot. -/
def State.fbiReg (s : State) (n : RegNum) : Word := s.slot (slotOf 0 n)

/-- Register `n` of the slice of TMU `u`. -/
def State.tmuReg (s : State) (u : TmuId) (n : RegNum) : Word := s.slot (slotOf (chipOf u) n)

/-- Store `v` in slot `k`. -/
def State.setSlot (s : State) (k : Nat) (v : Word) : State :=
  { s with regs := writeTable 0 s.regs k v }

/-- Store `v` in register `n` of the FBI slot. -/
def State.setFbiReg (s : State) (n : RegNum) (v : Word) : State := s.setSlot (slotOf 0 n) v

/-- The effective chip set of a write: `(chipsel = 0 ? 0xF : chipsel) & CHIPMASK` (30_encoding.md R131). -/
def effectiveChips (chipsel mask : ChipSet) : ChipSet :=
  (if chipsel = 0#4 then 0xF#4 else chipsel) &&& mask

/-- Store `data` in register `n` of chip `c` when `chips` has it. -/
def storeChip (chips : ChipSet) (n : RegNum) (data : Word) (c : Nat) (s : State) : State :=
  if bit chips c then s.setSlot (slotOf c n) data else s

/-- Store `data` in register `n` of every chip of `chips` (40_register_access.md R174). -/
def storeChips (chips : ChipSet) (n : RegNum) (data : Word) (s : State) : State :=
  storeChip chips n data 3 (storeChip chips n data 2 (storeChip chips n data 1 (storeChip chips n data 0 s)))

/-- Change the FBI iterators when `chips` has the FBI (40_register_access.md R175). -/
def updateFbi (chips : ChipSet) (f : FbiIter → FbiIter) (s : State) : State :=
  if bit chips 0 then { s with fbi := f s.fbi } else s

/-- Change TMU `u` when `chips` has it. -/
def updateTmu (chips : ChipSet) (f : Tmu → Tmu) (u : TmuId) (s : State) : State :=
  if bit chips (chipOf u) then s.setTmu u (f (s.tmu u)) else s

/-- Change every TMU of `chips` (40_register_access.md R175, R178, R179). -/
def updateTmus (chips : ChipSet) (f : Tmu → Tmu) (s : State) : State :=
  updateTmu chips f .t1 (updateTmu chips f .t0 s)

/-! ### Ports and error outcomes -/

/-- The defined error value of reads (20_memory.md R109; 92_eei_decisions.md D9). -/
def allOnes : Word := 0xFFFFFFFF#32

/-- Answer a read with `v` (60_exceptions.md R410). -/
def answerRead (v : Word) (s : State) : Out := .next { s with readData := v }

/-- Append an event to the log (60_exceptions.md R401). -/
def logEvent (e : LogEvent) (s : State) : State := { s with log := s.log ++ [e] }

/-- A protocol violation by a write (60_exceptions.md R401): one log event, the write dropped, nothing else changes. This
and the read form below are all the block has in place of an exception entry: nothing is saved, no mode or address
changes, and there is no return (R400). -/
def dropWrite (e : LogEvent) (s : State) : Out := .next (logEvent e s)

/-- A protocol violation by a read (60_exceptions.md R401): one log event, and the read returns all ones. -/
def rejectRead (e : LogEvent) (s : State) : Out := answerRead allOnes (logEvent e s)

/-- Emit an event to the host (60_exceptions.md R410). -/
def emit (e : HostEvent) (s : State) : State := { s with hostEvents := s.hostEvents ++ [e] }

/-! ### Construction -/

/-- The minimum-size checks of construction (60_exceptions.md R402; 70_reset_and_hazards.md R430): a fault leaves no block;
otherwise the block starts in `State.resetWith p`. R402 and R430 give the checks no order, so where several sizes are too
small the reason named is the model's choice: the frame buffer first, then TMU0, then TMU1 (DESIGN CHOICE, log entry
41). -/
def instantiate (p : Params) : Out :=
  if ¬ p.fbMinBits ≤ p.fbBits then .fault .fbTooSmall
  else if bit p.chipmask 1 ∧ ¬ p.texMinBits ≤ p.texBits0 then .fault (.texTooSmall .t0)
  else if bit p.chipmask 2 ∧ ¬ p.texMinBits ≤ p.texBits1 then .fault (.texTooSmall .t1)
  else .next (State.resetWith p)

end Sys2Proof.Machine
end

