-- ==== Sys2Proof/Machine/Access.lean ====
section
/-! DEFINITION. The access table of 10_state.md R30 and the register write and read paths of 40_register_access.md R170, R180. -/

namespace Sys2Proof.Machine

/-- Access-right flags of a register number (10_state.md R23): read, write, pipelined, FIFO-queued, valid during FIFO
write-through. Only the first two change what a transaction does; no register of R30 has the last. -/
structure Access where
  r : Bool
  w : Bool
  p : Bool
  f : Bool
  t : Bool
deriving DecidableEq, Repr

def Access.none : Access := ⟨false, false, false, false, false⟩
def Access.readOnly : Access := ⟨true, false, false, false, false⟩
def Access.rw : Access := ⟨true, true, false, false, false⟩
def Access.rwpf : Access := ⟨true, true, true, true, false⟩
def Access.wpf : Access := ⟨false, true, true, true, false⟩
def Access.rwf : Access := ⟨true, true, false, true, false⟩
def Access.wf : Access := ⟨false, true, false, true, false⟩

/-- `FLAGS(GEN, n)`: the flags columns of 10_state.md R30. The V2 column is the reference of ACCESS_V2 (log entry 9). The
V2 command-FIFO and blitter numbers, "refused" there, carry no flags. -/
def accessFlags (gen : Gen) (n : RegNum) : Access :=
  let v2 (a : Access) : Access := match gen with
    | .v1 => .none
    | .v2 => a
  let k := n.toNat
  if k = 0x00 then .readOnly
  else if k = 0x01 then v2 .rw
  else if k ≤ 0x20 then .wpf
  else if k = 0x21 then .none
  else if k ≤ 0x40 then .wpf
  else if k ≤ 0x4A then .rwpf
  else if k ≤ 0x4D then (match gen with
    | .v1 => .wpf
    | .v2 => .rwpf)
  else if k = 0x4E then v2 .rwpf
  else if k = 0x4F then v2 .wpf
  else if k ≤ 0x52 then .rwpf
  else if k ≤ 0x57 then .readOnly
  else if k ≤ 0x77 then .wf
  else if k ≤ 0x7F then .none
  else if k = 0x80 then .rwf
  else if k = 0x81 then .readOnly
  else if k ≤ 0x87 then .rwf
  else if k ≤ 0x8C then .wf
  else if k ≤ 0x8F then v2 .wf
  else if k = 0x90 then v2 .readOnly
  else if k ≤ 0x93 then v2 .rwf
  else if k ≤ 0x95 then .none
  else if k ≤ 0x97 then v2 .readOnly
  else if k ≤ 0xA9 then v2 .wpf
  else if k ≤ 0xBF then .none
  else if k ≤ 0xC6 then .wpf
  else if k ≤ 0xE0 then .wf
  else .none

/-- A V2 command-FIFO (0x78..0x7E) or 2D blitter (0xB0..0xBF) register, whose writes refuse (40_register_access.md
R173). -/
def undescribed (gen : Gen) (n : RegNum) : Bool :=
  match gen with
  | .v1 => false
  | .v2 =>
    let k := n.toNat
    (decide (0x78 ≤ k) && decide (k ≤ 0x7E)) || (decide (0xB0 ≤ k) && decide (k ≤ 0xBF))

/-- An init register, gated by `INIT_ENABLE`: fbiInit0 to fbiInit4, and fbiInit5 to fbiInit7 (40_register_access.md
R176). -/
def isInitReg (n : RegNum) : Bool :=
  let k := n.toNat
  decide (k = 0x80) || (decide (0x84 ≤ k) && decide (k ≤ 0x87)) || (decide (0x91 ≤ k) && decide (k ≤ 0x93))

/-- `RegWrite` (40_register_access.md R170), after the alternate map: the checks in the order of 60_exceptions.md R406, the
store of R174, then the register's handler with the effective chip set and the data word. -/
def regWrite (n : RegNum) (chipsel : ChipSet) (data : Word) (handler : ChipSet → Word → State → Out) (s : State) : Out :=
  let chips := effectiveChips chipsel s.cfg.chipmask
  if undescribed s.cfg.gen n then .refused (.undescribedRegister n)
  else if ¬ (accessFlags s.cfg.gen n).w then dropWrite (.writeNotAllowed n data) s
  else if chips = 0#4 then dropWrite (.chipDisabled n) s
  else if isInitReg n ∧ ¬ s.cfg.initEnable then dropWrite (.initDisabled n) s
  else handler chips data (storeChips chips n data s)

/-- `RegRead` (40_register_access.md R180), after the alternate map: the R flag is tested, then the value is returned. -/
def regRead (n : RegNum) (value : State → Word) (s : State) : Out :=
  if (accessFlags s.cfg.gen n).r then answerRead (value s) s
  else rejectRead (.readNotAllowed n) s

/-- An access to a register that stores what is written and reads back its FBI slot (40_register_access.md R174, R181). -/
def storedReg (n : RegNum) (handler : ChipSet → Word → State → Out) (a : RegAccess) (s : State) : Out :=
  match a with
  | .read => regRead n (fun s => s.fbiReg n) s
  | .write chipsel data => regWrite n chipsel data handler s

/-- An access to a register whose value is computed on read; no generation lets it be written (10_state.md R30). -/
def computedReg (n : RegNum) (value : State → Word) (a : RegAccess) (s : State) : Out :=
  match a with
  | .read => regRead n value s
  | .write chipsel data => regWrite n chipsel data (fun _ _ s => .next s) s

/-- The handler of a register that is only stored (40_register_access.md R188). -/
def storeOnly (_ : ChipSet) (_ : Word) (s : State) : Out := .next s

/-- An access to a reserved register number, which no row of the table names (30_encoding.md R137 (a)): a write is logged
and dropped, a read is logged and returns all ones. -/
def reservedAccess (n : RegNum) (a : RegAccess) (s : State) : Out :=
  storedReg n storeOnly a s

end Sys2Proof.Machine
end

