-- ==== Sys2Proof/Machine/Fields.lean ====
section
/-! DEFINITION. The control registers by name and their fields, from 10_state.md R31 to R54. -/

namespace Sys2Proof.Machine

/-- `fbzColorPath`, FBI n = 0x41 (10_state.md R30). -/
def State.fbzColorPath (s : State) : Word := s.fbiReg 0x41

/-- `fogMode`, FBI n = 0x42 (10_state.md R30). -/
def State.fogMode (s : State) : Word := s.fbiReg 0x42

/-- `alphaMode`, FBI n = 0x43 (10_state.md R30). -/
def State.alphaMode (s : State) : Word := s.fbiReg 0x43

/-- `fbzMode`, FBI n = 0x44 (10_state.md R30). -/
def State.fbzMode (s : State) : Word := s.fbiReg 0x44

/-- `lfbMode`, FBI n = 0x45 (10_state.md R30). -/
def State.lfbMode (s : State) : Word := s.fbiReg 0x45

/-- `clipLeftRight`, FBI n = 0x46 (10_state.md R30). -/
def State.clipLeftRight (s : State) : Word := s.fbiReg 0x46

/-- `clipLowYHighY`, FBI n = 0x47 (10_state.md R30). -/
def State.clipLowYHighY (s : State) : Word := s.fbiReg 0x47

/-- `fogColor`, FBI n = 0x4B (10_state.md R30). -/
def State.fogColor (s : State) : Word := s.fbiReg 0x4B

/-- `zaColor`, FBI n = 0x4C (10_state.md R30). -/
def State.zaColor (s : State) : Word := s.fbiReg 0x4C

/-- `chromaKey`, FBI n = 0x4D (10_state.md R30). -/
def State.chromaKey (s : State) : Word := s.fbiReg 0x4D

/-- `chromaRange`, FBI n = 0x4E (10_state.md R30). -/
def State.chromaRange (s : State) : Word := s.fbiReg 0x4E

/-- `stipple`, FBI n = 0x50 (10_state.md R30). -/
def State.stipple (s : State) : Word := s.fbiReg 0x50

/-- `color0`, FBI n = 0x51 (10_state.md R30). -/
def State.color0 (s : State) : Word := s.fbiReg 0x51

/-- `color1`, FBI n = 0x52 (10_state.md R30). -/
def State.color1 (s : State) : Word := s.fbiReg 0x52

/-- `fbiInit1`, FBI n = 0x85 (10_state.md R30). -/
def State.fbiInit1 (s : State) : Word := s.fbiReg 0x85

/-- `fbiInit2`, FBI n = 0x86 (10_state.md R30). -/
def State.fbiInit2 (s : State) : Word := s.fbiReg 0x86

/-- `fbiInit3`, FBI n = 0x87 (10_state.md R30). -/
def State.fbiInit3 (s : State) : Word := s.fbiReg 0x87

/-- `fbiInit5`, FBI n = 0x91 (10_state.md R30). -/
def State.fbiInit5 (s : State) : Word := s.fbiReg 0x91

/-- `sSetupMode`, FBI n = 0x98 (10_state.md R30). -/
def State.sSetupMode (s : State) : Word := s.fbiReg 0x98

/-- `textureMode` of TMU `u`, n = 0xC0 (10_state.md R30). -/
def State.textureMode (s : State) (u : TmuId) : Word := s.tmuReg u 0xC0

/-- `tLOD` of TMU `u`, n = 0xC1 (10_state.md R30). -/
def State.tLOD (s : State) (u : TmuId) : Word := s.tmuReg u 0xC1

/-- `tDetail` of TMU `u`, n = 0xC2 (10_state.md R30). -/
def State.tDetail (s : State) (u : TmuId) : Word := s.tmuReg u 0xC2

/-- `texBaseAddr` of TMU `u`, n = 0xC3 (10_state.md R30). -/
def State.texBaseAddr (s : State) (u : TmuId) : Word := s.tmuReg u 0xC3

/-! ### fbzColorPath (10_state.md R31) -/

def cpRgbSelect (v : Word) : Nat := fieldNat v 0 2
def cpASelect (v : Word) : Nat := fieldNat v 2 2
def cpLocalSelect (v : Word) : Bool := bit v 4
def cpAlphaLocalSelect (v : Word) : Nat := fieldNat v 5 2
def cpLocalOverride (v : Word) : Bool := bit v 7
def cpZeroOther (v : Word) : Bool := bit v 8
def cpSubLocal (v : Word) : Bool := bit v 9
def cpMSelect (v : Word) : Nat := fieldNat v 10 3
def cpReverseBlend (v : Word) : Bool := bit v 13
def cpAddLocal (v : Word) : Nat := fieldNat v 14 2
def cpInvertOutput (v : Word) : Bool := bit v 16
def cpAlphaZeroOther (v : Word) : Bool := bit v 17
def cpAlphaSubLocal (v : Word) : Bool := bit v 18
def cpAlphaMSelect (v : Word) : Nat := fieldNat v 19 3
def cpAlphaReverseBlend (v : Word) : Bool := bit v 22
def cpAlphaAddLocal (v : Word) : Nat := fieldNat v 23 2
def cpAlphaInvertOutput (v : Word) : Bool := bit v 25
def cpSubpixelAdjust (v : Word) : Bool := bit v 26
def cpTextureEnable (v : Word) : Bool := bit v 27
def cpRgbzwClamp (v : Word) : Bool := bit v 28

/-! ### fogMode (10_state.md R32) -/

def fogEnable (v : Word) : Bool := bit v 0
def fogAdd (v : Word) : Bool := bit v 1
def fogMult (v : Word) : Bool := bit v 2
def fogSource (v : Word) : Nat := fieldNat v 3 2
def fogConstant (v : Word) : Bool := bit v 5
def fogDither (v : Word) : Bool := bit v 6
def fogZones (v : Word) : Bool := bit v 7

/-! ### alphaMode (10_state.md R33) -/

def alphaTestEnable (v : Word) : Bool := bit v 0
def alphaFunction (v : Word) : Nat := fieldNat v 1 3
def alphaBlendEnable (v : Word) : Bool := bit v 4
def alphaSrcRgb (v : Word) : Nat := fieldNat v 8 4
def alphaDstRgb (v : Word) : Nat := fieldNat v 12 4
def alphaSrcAlpha (v : Word) : Nat := fieldNat v 16 4
def alphaDstAlpha (v : Word) : Nat := fieldNat v 20 4
def alphaRef (v : Word) : Nat := fieldNat v 24 8

/-! ### fbzMode (10_state.md R34) -/

def fbzClipping (v : Word) : Bool := bit v 0
def fbzChromaKey (v : Word) : Bool := bit v 1
def fbzStipple (v : Word) : Bool := bit v 2
def fbzWBuffer (v : Word) : Bool := bit v 3
def fbzDepthBuf (v : Word) : Bool := bit v 4
def fbzDepthFunction (v : Word) : Nat := fieldNat v 5 3
def fbzDithering (v : Word) : Bool := bit v 8
def fbzRgbMask (v : Word) : Bool := bit v 9
def fbzAuxMask (v : Word) : Bool := bit v 10
def fbzDither2x2 (v : Word) : Bool := bit v 11
def fbzStipplePattern (v : Word) : Bool := bit v 12
def fbzAlphaMask (v : Word) : Bool := bit v 13
def fbzDrawBuffer (v : Word) : Nat := fieldNat v 14 2
def fbzDepthBias (v : Word) : Bool := bit v 16
def fbzYOrigin (v : Word) : Bool := bit v 17
def fbzAlphaPlanes (v : Word) : Bool := bit v 18
def fbzDitherSubtract (v : Word) : Bool := bit v 19
def fbzDepthSourceCompare (v : Word) : Bool := bit v 20
def fbzDepthFloat (v : Word) : Bool := bit v 21

/-! ### lfbMode (10_state.md R35) -/

def lfbWriteFormat (v : Word) : Nat := fieldNat v 0 4
def lfbWriteBuffer (v : Word) : Nat := fieldNat v 4 2
def lfbReadBuffer (v : Word) : Nat := fieldNat v 6 2
def lfbPipeline (v : Word) : Bool := bit v 8
def lfbLanes (v : Word) : Nat := fieldNat v 9 2
def lfbWordSwapWrites (v : Word) : Bool := bit v 11
def lfbSwizzleWrites (v : Word) : Bool := bit v 12
def lfbYOrigin (v : Word) : Bool := bit v 13
def lfbWordSwapReads (v : Word) : Bool := bit v 15
def lfbSwizzleReads (v : Word) : Bool := bit v 16

/-! ### chromaRange (10_state.md R40) -/

def rangeBlueHigh (v : Word) : Nat := fieldNat v 0 8
def rangeGreenHigh (v : Word) : Nat := fieldNat v 8 8
def rangeRedHigh (v : Word) : Nat := fieldNat v 16 8
def rangeBlueExclusive (v : Word) : Bool := bit v 24
def rangeGreenExclusive (v : Word) : Bool := bit v 25
def rangeRedExclusive (v : Word) : Bool := bit v 26
def rangeUnion (v : Word) : Bool := bit v 27
def rangeEnable (v : Word) : Bool := bit v 28

/-! ### sSetupMode (10_state.md R51) -/

def setupRgb (v : Word) : Bool := bit v 0
def setupA (v : Word) : Bool := bit v 1
def setupZ (v : Word) : Bool := bit v 2
def setupWb (v : Word) : Bool := bit v 3
def setupW0 (v : Word) : Bool := bit v 4
def setupST0 (v : Word) : Bool := bit v 5
def setupW1 (v : Word) : Bool := bit v 6
def setupST1 (v : Word) : Bool := bit v 7
def setupFan (v : Word) : Bool := bit v 16
def setupCull (v : Word) : Bool := bit v 17
def setupCullSign (v : Word) : Bool := bit v 18
def setupNoPingPong (v : Word) : Bool := bit v 19

/-! ### textureMode (10_state.md R52) -/

def tmPerspective (v : Word) : Bool := bit v 0
def tmMinFilter (v : Word) : Bool := bit v 1
def tmMagFilter (v : Word) : Bool := bit v 2
def tmClampNegW (v : Word) : Bool := bit v 3
def tmLodDither (v : Word) : Bool := bit v 4
def tmNccSelect (v : Word) : Bool := bit v 5
def tmClampS (v : Word) : Bool := bit v 6
def tmClampT (v : Word) : Bool := bit v 7
def tmFormat (v : Word) : Nat := fieldNat v 8 4
def tmZeroOther (v : Word) : Bool := bit v 12
def tmSubLocal (v : Word) : Bool := bit v 13
def tmMSelect (v : Word) : Nat := fieldNat v 14 3
def tmReverseBlend (v : Word) : Bool := bit v 17
def tmAddLocal (v : Word) : Nat := fieldNat v 18 2
def tmInvertOutput (v : Word) : Bool := bit v 20
def tmAlphaZeroOther (v : Word) : Bool := bit v 21
def tmAlphaSubLocal (v : Word) : Bool := bit v 22
def tmAlphaMSelect (v : Word) : Nat := fieldNat v 23 3
def tmAlphaReverseBlend (v : Word) : Bool := bit v 26
def tmAlphaAddLocal (v : Word) : Nat := fieldNat v 27 2
def tmAlphaInvertOutput (v : Word) : Bool := bit v 29
def tmSeq8Downld (v : Word) : Bool := bit v 31

/-! ### tLOD (10_state.md R53) -/

def tlLodMin (v : Word) : Nat := fieldNat v 0 6
def tlLodMax (v : Word) : Nat := fieldNat v 6 6
def tlLodBias (v : Word) : Nat := fieldNat v 12 6
def tlLodOdd (v : Word) : Bool := bit v 18
def tlTSplit (v : Word) : Bool := bit v 19
def tlSIsWider (v : Word) : Bool := bit v 20
def tlAspect (v : Word) : Nat := fieldNat v 21 2
def tlDataSwizzle (v : Word) : Bool := bit v 25
def tlDataSwap (v : Word) : Bool := bit v 26
def tlDirectWrite (v : Word) : Bool := bit v 27

/-! ### tDetail (10_state.md R54) -/

def tdMax (v : Word) : Nat := fieldNat v 0 8
def tdBias (v : Word) : Nat := fieldNat v 8 6
def tdScale (v : Word) : Nat := fieldNat v 14 3
def tdSeparateRgba (v : Word) : Bool := bit v 21

/-! ### Clip rectangle (10_state.md R36), colours (R37 to R42), init fields (R44), texture base (R55) -/

def State.clipLeft (s : State) : Int := fieldNat s.clipLeftRight 16 10
def State.clipRight (s : State) : Int := fieldNat s.clipLeftRight 0 10
def State.clipLowY (s : State) : Int := fieldNat s.clipLowYHighY 16 10
def State.clipHighY (s : State) : Int := fieldNat s.clipLowYHighY 0 10

/-- The channels of a colour register: `[31:24]` alpha, `[23:16]` red, `[15:8]` green, `[7:0]` blue (10_state.md R42). -/
def colorOf (v : Word) : Argb := ⟨fieldNat v 24 8, fieldNat v 16 8, fieldNat v 8 8, fieldNat v 0 8⟩

/-- `zaColor[15:0]`, the constant depth (10_state.md R38). -/
def State.zaDepth (s : State) : Half := field s.zaColor 0 16

/-- `zaColor[31:24]`, the alpha of LFB writes without one (10_state.md R38). -/
def State.zaAlpha (s : State) : Int := fieldNat s.zaColor 24 8

/-- `fbiInit3.tri_register_remap` (10_state.md R44). -/
def State.remap (s : State) : Bool := bit s.fbiInit3 0

/-- `fbiInit3[6]`, disable_tmus (10_state.md R44). -/
def State.tmusDisabled (s : State) : Bool := bit s.fbiInit3 6

/-- `texBaseAddr[19:0]` in bytes (10_state.md R55). -/
def State.texBase (s : State) (u : TmuId) : Nat := fieldNat (s.texBaseAddr u) 0 20 * 8

end Sys2Proof.Machine
end

