-- ==== Sys2Proof/Machine/Operands.lean ====
section
/-! DEFINITION. The operand forms: fixed-point and binary32 parameter words (30_encoding.md R140 to R147), colour expansions
(42_texture.md R271) and the LFB wire formats (44_commands.md R381, R382). -/

namespace Sys2Proof.Machine

/-! ### Parameter words -/

/-- A vertex coordinate: `sext_16(data[15:0])`, 12.4 (30_encoding.md R140). -/
def vertexFixed (data : Word) : Half := field data 0 16

/-- A colour parameter: `sext_32(data[23:0])`, 12.12 (30_encoding.md R141). -/
def colorFixed (data : Word) : Word := (field data 0 24).signExtend 32

/-- A depth parameter: the data word, 20.12 (30_encoding.md R142). -/
def depthFixed (data : Word) : Word := data

/-- A texture-coordinate parameter: 14.18 to 32 fraction bits (30_encoding.md R143). -/
def coordFixed (data : Word) : Wide := data.signExtend 64 <<< 14

/-- A W parameter: 2.30 to 32 fraction bits (30_encoding.md R144). -/
def wFixed (data : Word) : Wide := data.signExtend 64 <<< 2

/-- `F2I32` and `F2I64` (30_encoding.md R145): the binary32 word `data` with `k` fraction bits, `w` bits wide, the result
before its sign is applied. -/
def f2iMagnitude (w : Nat) (data : Word) (k : Nat) : Nat :=
  let e : Int := (fieldNat data 23 8 : Int) - 127 - 23 + k
  let m : Nat := fieldNat data 0 23 + 0x800000
  if e < 0 then (if e > -(w : Int) then m >>> (-e).toNat else 0)
  else if e < (w : Int) then (m <<< e.toNat) % 2 ^ w
  else 2 ^ (w - 1) - 1

/-- `F2I(data, k)` of width `w` (30_encoding.md R145). -/
def f2i (w : Nat) (data : Word) (k : Nat) : BitVec w :=
  let r := BitVec.ofNat w (f2iMagnitude w data k)
  if bit data 31 then -r else r

/-- `F2I32(data, k)`. -/
def f2i32 (data : Word) (k : Nat) : Word := f2i 32 data k

/-- `F2I64(data, k)`. -/
def f2i64 (data : Word) (k : Nat) : Wide := f2i 64 data k

/-- A vertex coordinate in binary32 (30_encoding.md R145). -/
def vertexFloat (data : Word) : Half := field (f2i32 data 4) 0 16

/-- A colour parameter in binary32 (30_encoding.md R145). -/
def colorFloat (data : Word) : Word := f2i32 data 12

/-- A depth parameter in binary32 (30_encoding.md R145). -/
def depthFloat (data : Word) : Word := f2i32 data 12

/-- A texture-coordinate parameter in binary32 (30_encoding.md R145). -/
def coordFloat (data : Word) : Wide := f2i64 data 32

/-- A W parameter in binary32 (30_encoding.md R145). -/
def wFloat (data : Word) : Wide := f2i64 data 32

/-- The binary32 word of a small integer, `f32(v)` of 30_encoding.md R146. -/
def f32OfByte (v : Byte) : Word :=
  let n := v.toNat
  if n = 0 then 0
  else
    let l := n.log2
    BitVec.ofNat 32 ((127 + l) * 2 ^ 23 + (n * 2 ^ (23 - l) - 2 ^ 23))

/-! ### Expansions by bit replication (42_texture.md R271) -/

def expand1 (v : Nat) : Int := if v = 0 then 0 else 0xFF
def expand2 (v : Nat) : Int := ((v <<< 6 ||| v <<< 4 ||| v <<< 2 ||| v : Nat) : Int)
def expand3 (v : Nat) : Int := ((v <<< 5 ||| v <<< 2 ||| v >>> 1 : Nat) : Int)
def expand4 (v : Nat) : Int := ((v <<< 4 ||| v : Nat) : Int)
def expand5 (v : Nat) : Int := ((v <<< 3 ||| v >>> 2 : Nat) : Int)
def expand6 (v : Nat) : Int := ((v <<< 2 ||| v >>> 4 : Nat) : Int)

/-! ### LFB wire formats -/

/-- A decoded LFB pixel (44_commands.md R381): its colour and its depth. -/
structure LfbPixel where
  color : Argb
  depth : Half
deriving DecidableEq, Repr

/-- What an LFB write format carries (44_commands.md R381). -/
structure LfbCarries where
  rgb : Bool
  alpha : Bool
  depth : Bool
deriving DecidableEq, Repr

/-- The write formats that are not reserved (44_commands.md R381). -/
def lfbCarries (format : Nat) : Option LfbCarries :=
  if format = 0 ∨ format = 1 ∨ format = 4 then some ⟨true, false, false⟩
  else if format = 2 ∨ format = 5 then some ⟨true, true, false⟩
  else if format = 12 ∨ format = 13 then some ⟨true, false, true⟩
  else if format = 14 then some ⟨true, true, true⟩
  else if format = 15 then some ⟨false, false, true⟩
  else none

/-- Whether a write format puts two pixels in a word (44_commands.md R381). -/
def lfbTwoPixels (format : Nat) : Bool := decide (format ≤ 2) || decide (format = 15)

/-- The lane orders RGBA and BGRA, whose alpha lies low (44_commands.md R382). -/
def lanesAlphaLow (lanes : Nat) : Bool := decide (2 ≤ lanes)

/-- Lane orders 1 and 3 exchange red and blue (44_commands.md R382). -/
def lanesOrder (lanes : Nat) (alpha p q r : Int) : Argb :=
  if lanes % 2 = 0 then ⟨alpha, p, q, r⟩ else ⟨alpha, r, q, p⟩

/-- The channels `(P, Q, R)` of 565(h). -/
def rgb565 (h : Half) (lanes : Nat) (alpha : Int) : Argb :=
  lanesOrder lanes alpha (expand5 (fieldNat h 11 5)) (expand6 (fieldNat h 5 6)) (expand5 (fieldNat h 0 5))

/-- The channels of x555(h), or of 555x(h) in the lane orders 2 and 3. -/
def rgb555 (h : Half) (lanes : Nat) (alpha : Int) : Argb :=
  if lanesAlphaLow lanes then
    lanesOrder lanes alpha (expand5 (fieldNat h 11 5)) (expand5 (fieldNat h 6 5)) (expand5 (fieldNat h 1 5))
  else
    lanesOrder lanes alpha (expand5 (fieldNat h 10 5)) (expand5 (fieldNat h 5 5)) (expand5 (fieldNat h 0 5))

/-- The alpha of 1555(h), or of 5551(h) in the lane orders 2 and 3. -/
def alpha1555 (h : Half) (lanes : Nat) : Int :=
  if lanesAlphaLow lanes then expand1 (fieldNat h 0 1) else expand1 (fieldNat h 15 1)

/-- The channels of x888(d), or of 888x(d) in the lane orders 2 and 3. -/
def rgb888 (d : Word) (lanes : Nat) (alpha : Int) : Argb :=
  if lanesAlphaLow lanes then
    lanesOrder lanes alpha (fieldNat d 24 8) (fieldNat d 16 8) (fieldNat d 8 8)
  else
    lanesOrder lanes alpha (fieldNat d 16 8) (fieldNat d 8 8) (fieldNat d 0 8)

/-- The alpha of 8888(d). -/
def alpha8888 (d : Word) (lanes : Nat) : Int :=
  if lanesAlphaLow lanes then fieldNat d 0 8 else fieldNat d 24 8

/-- The half of a two-pixel word that holds pixel `k` (20_memory.md R107). -/
def lfbHalf (d : Word) (k : Nat) : Half := if k = 0 then field d 0 16 else field d 16 16

/-- Pixel `k` of the word `d` (44_commands.md R381, R382), with the defaults `zaAlpha` and `zaDepth` for what the format
does not carry. R381 gives no default for the RGB of format 15, which the pipeline path sees as the iterated colour (R385):
it is a free value (DESIGN CHOICE, log entry 43). -/
def lfbDecode (format lanes : Nat) (zaAlpha : Int) (zaDepth : Half) (d : Word) (k : Nat) : LfbPixel :=
  let h := lfbHalf d k
  let low := field d 0 16
  let high := field d 16 16
  if format = 0 then ⟨rgb565 h lanes zaAlpha, zaDepth⟩
  else if format = 1 then ⟨rgb555 h lanes zaAlpha, zaDepth⟩
  else if format = 2 then ⟨rgb555 h lanes (alpha1555 h lanes), zaDepth⟩
  else if format = 4 then ⟨rgb888 d lanes zaAlpha, zaDepth⟩
  else if format = 5 then ⟨rgb888 d lanes (alpha8888 d lanes), zaDepth⟩
  else if format = 12 then ⟨rgb565 low lanes zaAlpha, high⟩
  else if format = 13 then ⟨rgb555 low lanes zaAlpha, high⟩
  else if format = 14 then ⟨rgb555 low lanes (alpha1555 low lanes), high⟩
  else
    let c := Config.depthOnlyColor d k
    ⟨⟨zaAlpha, fieldNat c 16 8, fieldNat c 8 8, fieldNat c 0 8⟩, h⟩

end Sys2Proof.Machine
end

