-- ==== Sys2Proof/Machine/Flags.lean ====
section
/-! DEFINITION. The comparison menu (10_state.md R57) and the statistics (R50). The block has no condition flags (R73). -/

namespace Sys2Proof.Machine

/-- `CMP(f, s, d)`: the comparison menu, the new value on the left (10_state.md R57; 43_pixel.md R306). -/
def compare8 (f : Nat) (s d : Int) : Bool :=
  match f with
  | 0 => false
  | 1 => decide (s < d)
  | 2 => decide (s = d)
  | 3 => decide (s ≤ d)
  | 4 => decide (s > d)
  | 5 => decide (s ≠ d)
  | 6 => decide (s ≥ d)
  | _ => true

/-- `stat.pixels_in += k`. -/
def addPixelsIn (k : Nat) (s : State) : State :=
  { s with stats := { s.stats with pixelsIn := s.stats.pixelsIn + BitVec.ofNat 24 k } }

/-- `stat.pixels_out += k`. -/
def addPixelsOut (k : Nat) (s : State) : State :=
  { s with stats := { s.stats with pixelsOut := s.stats.pixelsOut + BitVec.ofNat 24 k } }

/-- `stat.chroma_fail += 1`. -/
def failChroma (s : State) : State :=
  { s with stats := { s.stats with chromaFail := s.stats.chromaFail + 1 } }

/-- `stat.zfunc_fail += 1`. -/
def failZfunc (s : State) : State :=
  { s with stats := { s.stats with zfuncFail := s.stats.zfuncFail + 1 } }

/-- `stat.afunc_fail += 1`. -/
def failAfunc (s : State) : State :=
  { s with stats := { s.stats with afuncFail := s.stats.afuncFail + 1 } }

/-- `stat.stipple_fail += 1`. -/
def failStipple (s : State) : State :=
  { s with stats := { s.stats with stippleFail := s.stats.stippleFail + 1 } }

/-- `stat.clip_fail += k`. -/
def addClipFail (k : Nat) (s : State) : State :=
  { s with stats := { s.stats with clipFail := s.stats.clipFail + k } }

/-- `triangles_out += 1`. -/
def addTriangle (s : State) : State :=
  { s with stats := { s.stats with trianglesOut := s.stats.trianglesOut + 1 } }

/-- nopCMD with data[0] = 1 (44_commands.md R360): the five pixel counters and the two internal counts are cleared. -/
def clearPixelStats (s : State) : State :=
  { s with stats := { s.stats with pixelsIn := 0, chromaFail := 0, zfuncFail := 0, afuncFail := 0, pixelsOut := 0,
                                   clipFail := 0, stippleFail := 0 } }

/-- nopCMD with data[1] = 1 (44_commands.md R360): the triangle count is cleared. -/
def clearTriangles (s : State) : State :=
  { s with stats := { s.stats with trianglesOut := 0 } }

/-- The value of a 24-bit counter read as a register: `[31:24]` read 0 (10_state.md R47; 40_register_access.md R184). -/
def counterValue (c : BitVec 24) : Word := c.setWidth 32

end Sys2Proof.Machine
end

