-- ==== Sys2Proof/Machine/Layout.lean ====
section
/-! DEFINITION. The surface layout (10_state.md R69), buffer selection, the screen row, and the swap (44_commands.md R371,
R372). -/

namespace Sys2Proof.Machine

/-- A surface offset at or beyond FB_SIZE is NONE (10_state.md R69). -/
def surfaceAt (fbSize offset : Nat) : Option Nat := if offset < fbSize then some offset else none

/-- `cfg` of 10_state.md R69: `fbiInit2[4]`, or on V2 with that bit 0, `fbiInit5[10:9]`. -/
def bufferConfig (gen : Gen) (init2 init5 : Word) : Nat :=
  let c := fieldNat init2 4 1
  match gen with
  | .v1 => c
  | .v2 => if c = 0 then fieldNat init5 9 2 else c

/-- The row pitch in pixels (10_state.md R69). -/
def rowPitch (gen : Gen) (init1 : Word) : Nat :=
  match gen with
  | .v1 => 64 * fieldNat init1 4 4
  | .v2 => 32 * (2 * fieldNat init1 4 4 + fieldNat init1 24 1)

/-- `FB_LAYOUT`, the reference of 10_state.md R69 (log entry 5). -/
def fbLayout (gen : Gen) (fbSize : Nat) (init1 init2 init3 init5 : Word) : Surfaces :=
  let pages := fieldNat init2 11 10
  let c := bufferConfig gen init2 init5
  let at' (k : Nat) : Option Nat := if pages = 0 then none else surfaceAt fbSize (k * pages * 4096)
  { rgb0 := surfaceAt fbSize 0
    rgb1 := at' 1
    rgb2 := if c = 1 ∨ c = 2 then at' 2 else none
    aux := if c = 0 then at' 2 else if c = 2 then at' 3 else none
    rowpixels := rowPitch gen init1
    yorigin := field init3 22 10 }

/-- The offset `rgboffs[i]` (10_state.md R69). -/
def Surfaces.rgb (f : Surfaces) (i : Fin 3) : Option Nat :=
  match i with
  | 0 => f.rgb0
  | 1 => f.rgb1
  | 2 => f.rgb2

/-- Recompute the layout after a memory-layout write, and return the buffer indices to 0 and 1 when one names a surface
that is NONE (40_register_access.md R176). -/
def relayout (s : State) : State :=
  let f := fbLayout s.cfg.gen (2 ^ s.cfg.fbBits) s.fbiInit1 s.fbiInit2 s.fbiInit3 s.fbiInit5
  if f.rgb s.swap.front = none ∨ f.rgb s.swap.back = none then
    { s with surf := f, swap := { s.swap with front := 0, back := 1 } }
  else { s with surf := f }

/-- `rgboffs[frontbuf]`. -/
def State.frontOffset (s : State) : Option Nat := s.surf.rgb s.swap.front

/-- `rgboffs[backbuf]`. -/
def State.backOffset (s : State) : Option Nat := s.surf.rgb s.swap.back

/-- The surface that rendering draws to, `none` for a reserved draw buffer or a NONE surface (41_triangle.md R212;
43_pixel.md R301; 92_eei_decisions.md D14). -/
def State.drawOffset (s : State) : Option Nat :=
  match fbzDrawBuffer s.fbzMode with
  | 0 => s.frontOffset
  | 1 => s.backOffset
  | _ => none

/-- A row flipped through the Y origin: `(yorigin - y) & 0x3FF` (43_pixel.md R301). -/
def flipRow (s : State) (y : Int) : Int := ((s.surf.yorigin.toNat : Int) - y) % 1024

/-- `ScreenY(y)` (43_pixel.md R301). -/
def screenY (s : State) (y : Int) : Int := if fbzYOrigin s.fbzMode then flipRow s y else y

/-- The offset of a pixel from its surface's base, in 16-bit words (44_commands.md R383). -/
def pixelOffset (s : State) (scry x : Int) : Int := scry * (s.surf.rowpixels : Int) + x

/-- The 16-bit word address of a pixel of the surface at byte offset `base` (20_memory.md R104; 43_pixel.md R301). -/
def pixelAddr (s : State) (base : Nat) (scry x : Int) : Int := ((base / 2 : Nat) : Int) + pixelOffset s scry x

/-- A pixel offset is in range for the surface at byte offset `base` (44_commands.md R383). -/
def offsetInRange (s : State) (base : Nat) (off : Int) : Bool :=
  decide (off < (((2 ^ s.cfg.fbBits - base) / 2 : Nat) : Int))

/-- `SwapBuffers()` (44_commands.md R371), with the host event of 60_exceptions.md R410 after it. -/
def swapBuffers (s : State) : State :=
  let w := s.swap
  let digit := BitVec.ofNat 32 (min w.vblankCount 15)
  let history := (w.history <<< 4) ||| digit
  let front := if w.dontSwap then w.front else if s.surf.rgb2 = none then 1 - w.front else w.front + 1
  let back := if w.dontSwap then w.back else if s.surf.rgb2 = none then 1 - front else front + 1
  emit (.displaySwap front)
    { s with swap := { w with front := front, back := back, history := history, vblankCount := 0, pending := false } }

/-- The effect of the VBlank event (44_commands.md R372). -/
def vblank (s : State) : State :=
  let count := min (s.swap.vblankCount + 1) 250
  let s' := { s with swap := { s.swap with vblankCount := count } }
  if s.swap.pending ∧ s.swap.interval.toNat ≤ count then swapBuffers s' else s'

end Sys2Proof.Machine
end

