-- ==== Sys2Proof/Machine/Texture.lean ====
section
/-! DEFINITION. The texture stage: per-triangle preparation (42_texture.md R250 to R254), sampling (R255 to R262), texel formats
(R270 to R273), the combine formula (R280, R281) and texture-memory writes (R290 to R292). -/

namespace Sys2Proof.Machine

/-! ### RECIPLOG (42_texture.md R252; log entry 6) -/

/-- `v >> k` on an `int`: floor division by a power of two (00_scope.md R11). -/
def sar (v : Int) (k : Nat) : Int := v / ((2 ^ k : Nat) : Int)

/-- `k` further binary digits of the base-2 logarithm of `m / 2^128`, for `2^128 ≤ m < 2^129`, after the digits `acc`. -/
def logDigits : Nat → Nat → Nat → Nat
  | 0, _, acc => acc
  | k + 1, m, acc =>
    let q := (m * m) >>> 128
    if 2 ^ 129 ≤ q then logDigits k (q >>> 1) (2 * acc + 1) else logDigits k q (2 * acc)

/-- `TAB[2j+1] = floor(log2((512 + j) / 512) * 2^22)` (42_texture.md R252). -/
def logEntry (j : Nat) : Nat := if j = 512 then 2 ^ 22 else logDigits 22 ((512 + j) <<< 119) 0

/-- `TAB[2j] = floor(2^31 / (512 + j))` (42_texture.md R252). -/
def recipEntry (j : Nat) : Nat := 2 ^ 31 / (512 + j)

/-- The linear interpolation between two table entries, `u32(p * (256 - f) + q * f) >> 8`. -/
def lerpEntry (p q f : Nat) : Nat := ((p * (256 - f) + q * f) % 2 ^ 32) >>> 8

/-- The result of RECIPLOG: the reciprocal and the 8.8 logarithm of `1/v`. -/
structure RecipLog where
  recip : Wide
  log : Int
deriving DecidableEq, Repr

/-- `RECIPLOG(v)`, the reference of 42_texture.md R252 (log entry 6). -/
def recipLog (v : Wide) : RecipLog :=
  let neg := bit v 63
  let a := if neg then -v else v
  let high := decide (field a 32 16 ≠ 0#16)
  let temp : Word := if high then field a 16 32 else field a 0 32
  if temp = 0 then ⟨if neg then 0x80000000 else 0x7FFFFFFF, 1000 * 256⟩
  else
    let lz := clz32 temp
    let t := temp <<< lz
    let e : Int := (if high then -16 else 0) + lz
    let j := fieldNat t 22 9
    let f := fieldNat t 14 8
    let rl := (lerpEntry (logEntry j) (logEntry (j + 1)) f + 0x2000) >>> 14
    let rc := lerpEntry (recipEntry j) (recipEntry (j + 1)) f
    let sh := e - 6
    let r : Word := BitVec.ofNat 32 (if sh < 0 then rc >>> (-sh).toNat else rc <<< sh.toNat)
    ⟨(if neg then -r else r).setWidth 64, (e + 1) * 256 - rl⟩

/-- `LODBASE(u)`, the reference of 42_texture.md R253 (log entry 7). -/
def lodBase (t : Tmu) : Int :=
  let dsx := t.s.dx.sshiftRight 14
  let dtx := t.t.dx.sshiftRight 14
  let dsy := t.s.dy.sshiftRight 14
  let dty := t.t.dy.sshiftRight 14
  let tx := dsx * dsx + dtx * dtx
  let ty := dsy * dsy + dty * dty
  let m := (if BitVec.slt tx ty then ty else tx).sshiftRight 16
  (-(recipLog m).log + 12 * 256).tdiv 2

/-! ### Texel expansions (42_texture.md R271, R272) -/

/-- The word `a<<24 | r<<16 | g<<8 | b` of a colour with channels 0..255. -/
def packArgb (c : Argb) : Word := BitVec.ofInt 32 (c.a * 2 ^ 24 + c.r * 2 ^ 16 + c.g * 2 ^ 8 + c.b)

/-- `RGB332[i]`. -/
def texel332 (v : Byte) : Argb :=
  ⟨0xFF, expand3 (fieldNat v 5 3), expand3 (fieldNat v 2 3), expand2 (fieldNat v 0 2)⟩

/-- `A8[i]`. -/
def texelA8 (v : Byte) : Argb := ⟨v.toNat, v.toNat, v.toNat, v.toNat⟩

/-- `I8[i]`. -/
def texelI8 (v : Byte) : Argb := ⟨0xFF, v.toNat, v.toNat, v.toNat⟩

/-- `AI44[i]`. -/
def texelAI44 (v : Byte) : Argb :=
  let i := expand4 (fieldNat v 0 4)
  ⟨expand4 (fieldNat v 4 4), i, i, i⟩

/-- `RGB565[i]`. -/
def texel565 (v : Half) : Argb :=
  ⟨0xFF, expand5 (fieldNat v 11 5), expand6 (fieldNat v 5 6), expand5 (fieldNat v 0 5)⟩

/-- `ARGB1555[i]`. -/
def texel1555 (v : Half) : Argb :=
  ⟨expand1 (fieldNat v 15 1), expand5 (fieldNat v 10 5), expand5 (fieldNat v 5 5), expand5 (fieldNat v 0 5)⟩

/-- `ARGB4444[i]`. -/
def texel4444 (v : Half) : Argb :=
  ⟨expand4 (fieldNat v 12 4), expand4 (fieldNat v 8 4), expand4 (fieldNat v 4 4), expand4 (fieldNat v 0 4)⟩

/-- P8: a palette entry as RGB (42_texture.md R272). -/
def paletteRgb (p : BitVec 24) : Argb := ⟨0xFF, fieldNat p 16 8, fieldNat p 8 8, fieldNat p 0 8⟩

/-- PAL6666: a palette entry as four 6-bit fields (42_texture.md R272). -/
def palette6666 (p : BitVec 24) : Argb :=
  ⟨expand6 (fieldNat p 18 6), expand6 (fieldNat p 12 6), expand6 (fieldNat p 6 6), expand6 (fieldNat p 0 6)⟩

/-! ### NCC tables (42_texture.md R273) -/

/-- The sixteen `Y`. -/
def NccTable.yAt (n : NccTable) (k : Nat) : Byte := readTable 0 n.y k

/-- The four `I`. -/
def NccTable.iAt (n : NccTable) (k : Nat) : NccTriple := readTable ⟨0, 0, 0⟩ n.i k

/-- The four `Q`. -/
def NccTable.qAt (n : NccTable) (k : Nat) : NccTriple := readTable ⟨0, 0, 0⟩ n.q k

/-- The texel of raw byte `v` under the table's coefficients. -/
def nccTexel (n : NccTable) (v : Byte) : Argb :=
  let y : Int := (n.yAt (fieldNat v 4 4)).toNat
  let i := n.iAt (fieldNat v 2 2)
  let q := n.qAt (fieldNat v 0 2)
  ⟨0xFF, clampInt (y + i.r.toInt + q.r.toInt) 0 255, clampInt (y + i.g.toInt + q.g.toInt) 0 255,
    clampInt (y + i.b.toInt + q.b.toInt) 0 255⟩

/-- `RegenerateNCC` (42_texture.md R273). -/
def regenerateNcc (n : NccTable) : NccTable :=
  { n with texel := (List.range 256).map fun i => packArgb (nccTexel n (BitVec.ofNat 8 i)), dirty := false }

/-- NCC table `k` of a TMU. -/
def Tmu.ncc (t : Tmu) (k : Bool) : NccTable := if k then t.ncc1 else t.ncc0

/-- Change NCC table `k` of a TMU. -/
def Tmu.setNcc (t : Tmu) (k : Bool) (n : NccTable) : Tmu :=
  if k then { t with ncc1 := n } else { t with ncc0 := n }

/-! ### Derived state (42_texture.md R251) -/

/-- The level-presence mask. -/
def lodMask (tl : Word) : BitVec 9 :=
  if tlTSplit tl then (if tlLodOdd tl then 0x0AA else 0x155) else 0x1FF

/-- The texels of level `lod`, with at least four from level 3 on. -/
def levelTexels (wmask hmask : Byte) (lod : Nat) : Nat :=
  let size := ((wmask >>> lod).toNat + 1) * ((hmask >>> lod).toNat + 1)
  if 3 ≤ lod then max size 4 else size

/-- The offsets of levels `lod`, `lod + 1`, ..., `lod + n`: level `lod` lies at `base`, and a present level is followed by
the next after its own bytes. -/
def lodOffsets (size : Nat) (mask : BitVec 9) (wmask hmask : Byte) (bpp : Nat) : Nat → Nat → Nat → List Nat
  | 0, _, base => [base % size]
  | n + 1, lod, base =>
    let next := if bit mask lod then base + (levelTexels wmask hmask lod <<< bpp) else base
    base % size :: lodOffsets size mask wmask hmask bpp n (lod + 1) next

/-- The derived fields of TMU `t` from the words of its registers. -/
def deriveTmu (texSize : Nat) (tm tl td : Word) (base : Nat) (t : Tmu) : Tmu :=
  let aspect := tlAspect tl
  let wmask : Byte := if tlSIsWider tl then 0xFF else 0xFF >>> aspect
  let hmask : Byte := if tlSIsWider tl then 0xFF >>> aspect else 0xFF
  let mask := lodMask tl
  let bpp := tmFormat tm / 8
  { t with
    dirty := false
    lodmin := tlLodMin tl * 64
    lodmax := tlLodMax tl * 64
    lodbias := (BitVec.ofNat 6 (tlLodBias tl)).toInt * 64
    lodmask := mask
    lodoffset := lodOffsets texSize mask wmask hmask bpp 8 0 base
    wmask := wmask
    hmask := hmask
    bppscale := bpp
    detailmax := tdMax td
    detailbias := (BitVec.ofNat 6 (tdBias td)).toInt * 256
    detailscale := tdScale td
    lookupFormat := BitVec.ofNat 4 (tmFormat tm)
    lookupNcc := tmNccSelect tm
    separateRgba := tdSeparateRgba td }

/-- The derived fields of TMU `u` from the register file. -/
def State.derived (s : State) (u : TmuId) : Tmu :=
  deriveTmu (2 ^ texBits s.cfg u) (s.textureMode u) (s.tLOD u) (s.tDetail u) (s.texBase u) (s.tmu u)

/-- `Recompute(u)` (42_texture.md R251). Its refusal (R254 (a)) is recorded here, in `separateRgba`, and taken by the first
pixel that samples the unit (60_exceptions.md R405, R406; log entry 20). -/
def recompute (u : TmuId) (s : State) : State := s.setTmu u (s.derived u)

/-- `Recompute(u)` when the unit is dirty. -/
def recomputeIfDirty (u : TmuId) (s : State) : State := if (s.tmu u).dirty then recompute u s else s

/-- The YIQ formats 1 and 9 (42_texture.md R250). -/
def isYiq (format : Nat) : Bool := decide (format % 8 = 1)

/-- Regenerate the selected NCC table of TMU `u` when its format uses it and it is dirty (42_texture.md R250). -/
def regenerateSelected (u : TmuId) (s : State) : State :=
  let tm := s.textureMode u
  let k := tmNccSelect tm
  let t := s.tmu u
  if isYiq (tmFormat tm) ∧ (t.ncc k).dirty then s.setTmu u (t.setNcc k (regenerateNcc (t.ncc k))) else s

/-- Set `lodbase[u]` (42_texture.md R250). -/
def setLodBase (u : TmuId) (s : State) : State :=
  let t := s.tmu u
  s.setTmu u { t with lodbase := lodBase t }

/-- `PrepareTMU(u)` (42_texture.md R250). -/
def prepareTmu (u : TmuId) (s : State) : State := setLodBase u (regenerateSelected u (recomputeIfDirty u s))

/-- The active texture-unit count `ntmu` (10_state.md R66). -/
def State.ntmu (s : State) : Nat :=
  if ¬ cpTextureEnable s.fbzColorPath ∨ s.tmusDisabled ∨ ¬ bit s.cfg.chipmask 1 then 0
  else if ¬ bit s.cfg.chipmask 2 then 1
  else 2

/-- The active units in order. -/
def activeTmus (ntmu : Nat) : List TmuId :=
  match ntmu with
  | 0 => []
  | 1 => [.t0]
  | _ => [.t0, .t1]

/-! ### Dither matrices (43_pixel.md R350) -/

/-- An entry of a 4 by 4 matrix given row by row, by the low two bits of row and column. -/
def matrixAt (m : List Nat) (row col : Int) : Nat := m.getD ((row % 4) * 4 + col % 4).toNat 0

/-- `DITHER4[y & 3][x & 3]`. -/
def dither4 (y x : Int) : Nat := matrixAt [0, 8, 2, 10, 12, 4, 14, 6, 3, 11, 1, 9, 15, 7, 13, 5] y x

/-- `DITHER2[y & 3][x & 3]`. -/
def dither2 (y x : Int) : Nat := matrixAt [2, 10, 2, 10, 14, 6, 14, 6, 2, 10, 2, 10, 14, 6, 14, 6] y x

/-! ### Sampling -/

/-- The S, T and W iterators of a unit at a pixel (41_triangle.md R242). -/
structure TexCoord where
  s : Wide
  t : Wide
  w : Wide
deriving DecidableEq, Repr

/-- What the texture stage sees of a pixel: the active units and their iterators. -/
structure TexIn where
  ntmu : Nat
  c0 : TexCoord
  c1 : TexCoord
deriving DecidableEq, Repr

/-- The iterators of unit `u`. -/
def TexIn.coord (i : TexIn) (u : TmuId) : TexCoord :=
  match u with
  | .t0 => i.c0
  | .t1 => i.c1

/-- The coordinates of a sample, in 14.18 texels of LOD 0, and its clamped 8.8 LOD. -/
structure SamplePos where
  s : Word
  t : Word
  lod : Int
deriving DecidableEq, Repr

/-- Coordinates and LOD of a unit at pixel `(x, y)` (42_texture.md R256). -/
def samplePos (t : Tmu) (tm : Word) (x y : Int) (c : TexCoord) : SamplePos :=
  let rl := recipLog c.w
  let persp := tmPerspective tm
  let s0 : Word := if persp then ((rl.recip * c.s).sshiftRight 29).setWidth 32 else (c.s.sshiftRight 14).setWidth 32
  let t0 : Word := if persp then ((rl.recip * c.t).sshiftRight 29).setWidth 32 else (c.t.sshiftRight 14).setWidth 32
  let zero := tmClampNegW tm && bit c.w 63
  let lod0 := t.lodbase + (if persp then rl.log else 0) + t.lodbias
  let lod1 := if tmLodDither tm then lod0 + (dither4 y x * 16 : Nat) else lod0
  ⟨if zero then 0 else s0, if zero then 0 else t0, clampInt lod1 t.lodmin t.lodmax⟩

/-- The level index of a clamped LOD, the next one when it is absent (42_texture.md R257); `none` where no level exists
(R254 (d)). -/
def selectLevel (t : Tmu) (lod : Int) : Option Nat :=
  let i := (sar lod 8).toNat
  let j := if bit t.lodmask i then i else i + 1
  if 9 ≤ j then none else some j

/-- The unit samples one texel rather than four (42_texture.md R258). -/
def pointSampled (t : Tmu) (tm : Word) (lod : Int) : Bool :=
  if lod = t.lodmin then !tmMagFilter tm else !tmMinFilter tm

/-- `LOOKUP8` of format code `f` (42_texture.md R270). -/
def lookup8 (t : Tmu) (f : Nat) (v : Byte) : Word :=
  if f = 0 ∨ f = 8 then packArgb (texel332 v)
  else if f = 1 ∨ f = 9 then (t.ncc t.lookupNcc).texel.getD v.toNat 0
  else if f = 2 then packArgb (texelA8 v)
  else if f = 3 ∨ f = 13 then packArgb (texelI8 v)
  else if f = 4 then packArgb (texelAI44 v)
  else if f = 6 then packArgb (palette6666 (readTable 0 t.palette v.toNat))
  else packArgb (paletteRgb (readTable 0 t.palette v.toNat))

/-- `LOOKUP16` of format code `f` (42_texture.md R270). -/
def lookup16 (f : Nat) (v : Half) : Word :=
  if f = 10 then packArgb (texel565 v)
  else if f = 11 then packArgb (texel1555 v)
  else packArgb (texel4444 v)

/-- A reserved texel format (42_texture.md R270). -/
def reservedFormat (gen : Gen) (f : Nat) : Bool :=
  decide (f = 7) || decide (f = 15) || (decide (f = 6) && decide (gen = .v1))

/-- `Fetch(u, texbase, i)` (42_texture.md R262). -/
def fetchTexel (s : State) (u : TmuId) (texbase i : Nat) : Word :=
  let t := s.tmu u
  let f := t.lookupFormat.toNat
  if tmFormat (s.textureMode u) < 8 then lookup8 t f (texRead8 s u (texbase + i))
  else
    let raw := texRead16 s u (texMask s.cfg u (texbase + 2 * i) / 2)
    if f = 10 ∨ f = 11 ∨ f = 12 then lookup16 f raw
    else (lookup8 t f (field raw 0 8) &&& 0x00FFFFFF#32) ||| (field raw 8 8).setWidth 32 <<< 24

/-- A coordinate clamped if asked, then wrapped by the level's mask, which is a power of two minus one. -/
def wrapCoord (clamp : Bool) (v : Int) (mask : Nat) : Nat :=
  let c := if clamp then clampInt v 0 mask else v
  (c % ((mask + 1 : Nat) : Int)).toNat

/-- Point sampling (42_texture.md R259). -/
def samplePoint (s : State) (u : TmuId) (p : SamplePos) (level : Nat) : Word :=
  let t := s.tmu u
  let tm := s.textureMode u
  let smax := (t.wmask >>> level).toNat
  let tmax := (t.hmask >>> level).toNat
  let ss := wrapCoord (tmClampS tm) (sar p.s.toInt (level + 18)) smax
  let tt := wrapCoord (tmClampT tm) (sar p.t.toInt (level + 18)) tmax
  fetchTexel s u (t.lodoffset.getD level 0) (tt * (smax + 1) + ss)

/-- `L(p, q, f)` on two packed channels (42_texture.md R261). -/
def lerpLanes (p q f : Word) : Word := (p + ((q - p) * f) >>> 8) &&& 0x00FF00FF#32

/-- `BILERP` (42_texture.md R261). -/
def bilerp (c00 c01 c10 c11 u v : Word) : Word :=
  let rb (c : Word) : Word := c &&& 0x00FF00FF#32
  let ag (c : Word) : Word := (c >>> 8) &&& 0x00FF00FF#32
  let rbRow := lerpLanes (lerpLanes (rb c00) (rb c01) u) (lerpLanes (rb c10) (rb c11) u) v
  let agRow := lerpLanes (lerpLanes (ag c00) (ag c01) u) (lerpLanes (ag c10) (ag c11) u) v
  ((agRow <<< 8) &&& 0xFF00FF00#32) ||| rbRow

/-- The bilinear-precision mask `BMASK` (42_texture.md R260). -/
def bilinearMask (gen : Gen) : Byte :=
  match gen with
  | .v1 => 0xF0
  | .v2 => 0xFF

/-- The eight fraction bits of a bilinear coordinate, masked by `BMASK`. -/
def bilinearFraction (gen : Gen) (v : Int) : Word :=
  (BitVec.ofInt 8 v &&& bilinearMask gen).setWidth 32

/-- Bilinear sampling (42_texture.md R260). -/
def sampleBilinear (s : State) (u : TmuId) (p : SamplePos) (level : Nat) : Word :=
  let t := s.tmu u
  let tm := s.textureMode u
  let smax := (t.wmask >>> level).toNat
  let tmax := (t.hmask >>> level).toNat
  let sv := sar p.s.toInt (level + 10) - 0x80
  let tv := sar p.t.toInt (level + 10) - 0x80
  let s0 := wrapCoord (tmClampS tm) (sar sv 8) smax
  let s1 := wrapCoord (tmClampS tm) (sar sv 8 + 1) smax
  let t0 := wrapCoord (tmClampT tm) (sar tv 8) tmax
  let t1 := wrapCoord (tmClampT tm) (sar tv 8 + 1) tmax
  let at' (r c : Nat) : Word := fetchTexel s u (t.lodoffset.getD level 0) (r * (smax + 1) + c)
  bilerp (at' t0 s0) (at' t0 s1) (at' t1 s0) (at' t1 s1) (bilinearFraction s.cfg.gen sv)
    (bilinearFraction s.cfg.gen tv)

/-- The unit was recomputed with V2 separate_rgba_filter set, so sampling it refuses (42_texture.md R254 (a); log entry
20). -/
def Tmu.separateFilter (t : Tmu) (gen : Gen) : Bool := decide (gen = .v2) && t.separateRgba

/-- `Sample(u, x, y)` (42_texture.md R256 to R262): the ARGB word, or the refusal of R254 (a), (d) or (c). -/
def sample (s : State) (u : TmuId) (p : SamplePos) : Except Refusal Word :=
  let t := s.tmu u
  if t.separateFilter s.cfg.gen then .error .separateRgbaFilter
  else match selectLevel t p.lod with
  | none => .error .noSuchLevel
  | some level =>
    if reservedFormat s.cfg.gen (tmFormat (s.textureMode u)) then .error .reservedTexelFormat
    else if pointSampled t (s.textureMode u) p.lod then .ok (samplePoint s u p level)
    else .ok (sampleBilinear s u p level)

/-! ### The combine formula (42_texture.md R280; 43_pixel.md R322) -/

/-- `v ^ 0xFF` on an `int`: the low eight bits are complemented. -/
def xorFF (v : Int) : Int := v - v % 256 + (255 - v % 256)

/-- The control fields of one combine unit. -/
structure CombineCtl where
  zeroOther : Bool
  subLocal : Bool
  reverseBlend : Bool
  addLocal : Nat
  invertOutput : Bool
  aZeroOther : Bool
  aSubLocal : Bool
  aReverseBlend : Bool
  aAddLocal : Nat
  aInvertOutput : Bool
deriving DecidableEq, Repr

/-- One channel of the combine formula before its clamp: `other` zeroed if asked, `loc` subtracted if asked, times the
multiplier `m`, inverted unless reversed, plus `add`. -/
def combineChannel (zeroOther subLocal reverseBlend : Bool) (other loc m add : Int) : Int :=
  let x := (if zeroOther then 0 else other) - (if subLocal then loc else 0)
  let f := if reverseBlend then m else xorFF m
  sar (x * (f + 1)) 8 + add

/-- The clamp to eight bits and the optional inversion. -/
def combineOutput (invert : Bool) (v : Int) : Int :=
  if invert then xorFF (clampInt v 0 255) else clampInt v 0 255

/-- The shared combine formula (42_texture.md R280; 43_pixel.md R322), with `m` the selected multipliers. -/
def combine (k : CombineCtl) (m other loc : Argb) : Argb :=
  let add (c : Int) : Int := if k.addLocal = 1 then c else if k.addLocal = 2 then loc.a else 0
  let ch (o l mm : Int) : Int :=
    combineOutput k.invertOutput (combineChannel k.zeroOther k.subLocal k.reverseBlend o l mm (add l))
  { a := combineOutput k.aInvertOutput
      (combineChannel k.aZeroOther k.aSubLocal k.aReverseBlend other.a loc.a m.a (if k.aAddLocal = 0 then 0 else loc.a))
    r := ch other.r loc.r m.r
    g := ch other.g loc.g m.g
    b := ch other.b loc.b m.b }

/-- The combine fields of textureMode (10_state.md R52). -/
def textureCombineCtl (tm : Word) : CombineCtl where
  zeroOther := tmZeroOther tm
  subLocal := tmSubLocal tm
  reverseBlend := tmReverseBlend tm
  addLocal := tmAddLocal tm
  invertOutput := tmInvertOutput tm
  aZeroOther := tmAlphaZeroOther tm
  aSubLocal := tmAlphaSubLocal tm
  aReverseBlend := tmAlphaReverseBlend tm
  aAddLocal := tmAlphaAddLocal tm
  aInvertOutput := tmAlphaInvertOutput tm

/-- The detail factor `DF` (42_texture.md R281). -/
def detailFactor (t : Tmu) (lod : Int) : Int :=
  if t.detailbias ≤ lod then 0
  else min (sar ((t.detailbias - lod) * ((2 ^ t.detailscale : Nat) : Int)) 8) t.detailmax

/-- One entry of the texture-combine multiplier menu (42_texture.md R281): `c` is the channel of the local colour. -/
def textureMenu (code : Nat) (t : Tmu) (lod : Int) (other loc : Argb) (c : Int) : Int :=
  match code with
  | 1 => c
  | 2 => other.a
  | 3 => loc.a
  | 4 => detailFactor t lod
  | 5 => lod % 256
  | _ => 0

/-- `Combine_u` (42_texture.md R280). -/
def textureCombine (t : Tmu) (tm : Word) (lod : Int) (loc other : Argb) : Argb :=
  let rgb (c : Int) : Int := textureMenu (tmMSelect tm) t lod other loc c
  let m : Argb := ⟨textureMenu (tmAlphaMSelect tm) t lod other loc loc.a, rgb loc.r, rgb loc.g, rgb loc.b⟩
  combine (textureCombineCtl tm) m other loc

/-- The colour `(0, 0, 0, 0)`. -/
def Argb.black : Argb := ⟨0, 0, 0, 0⟩

/-- `TextureUnit(u, x, y, other)` (42_texture.md R255), or its refusal. -/
def textureUnit (s : State) (u : TmuId) (x y : Int) (c : TexCoord) (other : Argb) : Except Refusal Argb :=
  let t := s.tmu u
  let tm := s.textureMode u
  let p := samplePos t tm x y c
  match sample s u p with
  | .error r => .error r
  | .ok texel => .ok (textureCombine t tm p.lod (colorOf texel) other)

/-- A unit in the chain: passed through when its lodmin is 8.0 or more (42_texture.md R255). -/
def textureStage (s : State) (u : TmuId) (x y : Int) (c : TexCoord) (other : Argb) : Except Refusal Argb :=
  if (s.tmu u).lodmin < 8 * 256 then textureUnit s u x y c other else .ok other

/-- `TexturePipeline(x, y)` (42_texture.md R255): TMU1 feeds TMU0. -/
def texturePipeline (s : State) (x y : Int) (i : TexIn) : Except Refusal Argb :=
  let upstream := if 2 ≤ i.ntmu then textureStage s .t1 x y i.c1 .black else .ok .black
  match upstream with
  | .error r => .error r
  | .ok other => if 1 ≤ i.ntmu then textureStage s .t0 x y i.c0 other else .ok other

/-! ### Texture-memory writes -/

/-- The byte address of a texture write at a level, row and word column (42_texture.md R291, R292). -/
def texWriteAddr (s : State) (u : TmuId) (lod : Nat) (row sword : Nat) : Nat :=
  let t := s.tmu u
  let width := (t.wmask >>> lod).toNat + 1
  let base := t.lodoffset.getD lod 0
  if tmFormat (s.textureMode u) < 8 then
    let ts := if tmSeq8Downld (s.textureMode .t0) then (sword * 4) % 256 else ((sword * 2) % 256) / 4 * 4
    texMask s.cfg u (base + row * width + ts)
  else texMask s.cfg u (base + 2 * (row * width + sword * 2))

/-- Store the four bytes of a word at byte addresses `a` to `a + 3`, each masked (42_texture.md R291, R292). -/
def texWriteWord (u : TmuId) (a : Nat) (d : Word) (s : State) : State :=
  texWrite8 u (a + 3) (field d 24 8)
    (texWrite8 u (a + 2) (field d 16 8) (texWrite8 u (a + 1) (field d 8 8) (texWrite8 u a (field d 0 8) s)))

/-- The word a texture write stores, after the unit's swizzle and swap bits (42_texture.md R290). -/
def texWriteData (tl : Word) (d : Word) : Word :=
  let d := if tlDataSwizzle tl then swizzle d else d
  if tlDataSwap tl then wswap d else d

/-- The TMU of a unit field, when it exists and is present (42_texture.md R290). -/
def presentUnit (mask : ChipSet) (unit : BitVec 2) : Option TmuId :=
  if unit = 0#2 ∧ bit mask 1 then some .t0
  else if unit = 1#2 ∧ bit mask 2 then some .t1
  else none

/-- `TextureWrite` (42_texture.md R290): the outcomes in the order of 60_exceptions.md R406 (unit, tdirect_write, LOD), so a
dropped write changes only the log (R401; log entry 21). -/
def textureWrite (unit : BitVec 2) (lod : BitVec 4) (row : Byte) (sword : BitVec 7) (data : Word) (s : State) : Out :=
  match presentUnit s.cfg.chipmask unit with
  | none => dropWrite (.texNoUnit unit) s
  | some u =>
    if s.cfg.gen = .v2 ∧ tlDirectWrite (s.tLOD u) then .refused .texDirectWrite
    else if 8 < lod.toNat then dropWrite (.texBadLod lod) s
    else
      let s := recomputeIfDirty u s
      .next (texWriteWord u (texWriteAddr s u lod.toNat row.toNat sword.toNat) (texWriteData (s.tLOD u) data) s)

end Sys2Proof.Machine
end

