-- ==== Sys2Proof/Machine/Pixel.lean ====
section
/-! DEFINITION. The pixel pipeline (43_pixel.md R302 to R351). -/

namespace Sys2Proof.Machine

/-- What the pipeline sees of a pixel (43_pixel.md R302; 44_commands.md R385): the surface's byte offset, the coordinates
and the screen row, the iterated values, whether the aux write may happen, and whether the combine and the texture stage
are bypassed. -/
structure PixelIn where
  base : Nat
  x : Int
  y : Int
  scry : Int
  iter : Argb
  z : Word
  w : Wide
  tex : TexIn
  auxWrite : Bool
  bypass : Bool
deriving DecidableEq, Repr

/-! ### Stipple (43_pixel.md R303) -/

/-- Stipple in rotate mode. -/
def stippleRotates (fbz : Word) : Bool := fbzStipple fbz && !fbzStipplePattern fbz

/-- The stipple register after a pixel reached the stage: rotated left by one in rotate mode. -/
def stippleStep (s : State) : State :=
  if stippleRotates s.fbzMode then s.setFbiReg 0x50 (s.stipple.rotateLeft 1) else s

/-- The bit of the pattern that a pixel tests, after the rotation. -/
def stippleIndex (fbz : Word) (x y : Int) : Nat :=
  if fbzStipplePattern fbz then ((y % 4) * 8 + (7 - x % 8)).toNat else 31

/-- The stipple test, after `stippleStep`. -/
def stipplePass (s : State) (x y : Int) : Bool :=
  !fbzStipple s.fbzMode || bit s.stipple (stippleIndex s.fbzMode x y)

/-! ### Depth (43_pixel.md R304 to R306) -/

/-- `Float16(v)`: the floating 4.12 encoding. -/
def float16 (v : Word) : Nat :=
  if field v 16 16 = 0 then 0xFFFF
  else
    let e := clz32 v
    let f := e * 2 ^ 12 + (~~~v >>> (19 - e)).toNat % 2 ^ 12
    if f < 0xFFFF then f + 1 else f

/-- `wfloat` (43_pixel.md R304). -/
def wFloating (w : Wide) : Nat := if field w 32 16 ≠ 0 then 0 else float16 (field w 0 32)

/-- An iterated value reduced to `top + 1` values: clamped, or wrapped with its two exceptions (43_pixel.md R305). `bits`
is the width of the wrapped value, whose all-ones value reads 0 and whose value `top + 1` reads `top`. -/
def reduceIterated (clamp : Bool) (bits top : Nat) (v : Int) : Int :=
  if clamp then clampInt v 0 top
  else
    let u := v % ((2 ^ bits : Nat) : Int)
    if u = ((2 ^ bits - 1 : Nat) : Int) then 0
    else if u = ((top + 1 : Nat) : Int) then (top : Int)
    else u % ((top + 1 : Nat) : Int)

/-- `ClampedZ(Z)`. -/
def clampedZ (clamp : Bool) (z : Word) : Int := reduceIterated clamp 20 0xFFFF (sar z.toInt 12)

/-- `ClampedW(W)`. -/
def clampedW (clamp : Bool) (w : Wide) : Int := reduceIterated clamp 16 0xFF (field w 32 16).toInt

/-- `Clamp8(C)`. -/
def clamp8 (clamp : Bool) (c : Word) : Int := reduceIterated clamp 12 0xFF (sar c.toInt 12)

/-- `rgbzw_clamp`. -/
def State.iterClamp (s : State) : Bool := cpRgbzwClamp s.fbzColorPath

/-- The selected depth source, before the bias (43_pixel.md R304). -/
def depthSource (s : State) (z : Word) (w : Wide) : Int :=
  let fbz := s.fbzMode
  if ¬ fbzWBuffer fbz then clampedZ s.iterClamp z
  else if s.cfg.gen = .v2 ∧ fbzDepthFloat fbz then
    (if field z 28 4 ≠ 0 then 0 else (float16 (z <<< 4) : Int))
  else (wFloating w : Int)

/-- `depthval` (43_pixel.md R304). -/
def depthValue (s : State) (z : Word) (w : Wide) : Int :=
  let d := depthSource s z w
  if fbzDepthBias s.fbzMode then clampInt (d + s.zaDepth.toInt) 0 0xFFFF else d

/-- The value the depth test compares (43_pixel.md R306). -/
def depthCompared (s : State) (depth : Int) : Int :=
  if fbzDepthSourceCompare s.fbzMode then (s.zaDepth.toNat : Int) else depth

/-- `DepthTest` (43_pixel.md R306). -/
def depthPass (s : State) (x scry depth : Int) : Bool :=
  let fbz := s.fbzMode
  if ¬ fbzDepthBuf fbz then true
  else if fbzDepthFunction fbz = 0 then false
  else match s.surf.aux with
    | none => true
    | some aux =>
      compare8 (fbzDepthFunction fbz) (depthCompared s depth) (fbRead16 s (pixelAddr s aux scry x)).toNat

/-! ### Selects, chroma key, alpha mask, combine, alpha test (43_pixel.md R310 to R323) -/

/-- The other and local colours of the colour path; `a` is `a_other` or `a_local`. -/
structure Selected where
  other : Argb
  loc : Argb
deriving DecidableEq, Repr

/-- `c_other` and `a_other` (43_pixel.md R320). -/
def selectOther (s : State) (texel iter : Argb) : Argb :=
  let cp := s.fbzColorPath
  let c1 := colorOf s.color1
  let rgb : Argb := match cpRgbSelect cp with
    | 0 => iter
    | 1 => texel
    | 2 => c1
    | _ => .black
  let a : Int := match cpASelect cp with
    | 0 => iter.a
    | 1 => texel.a
    | 2 => c1.a
    | _ => 0
  ⟨a, rgb.r, rgb.g, rgb.b⟩

/-- `c_local` and `a_local` (43_pixel.md R320). -/
def selectLocal (s : State) (texel iter : Argb) (z : Word) (w : Wide) : Argb :=
  let cp := s.fbzColorPath
  let c0 := colorOf s.color0
  let constant := if cpLocalOverride cp then decide (texel.a / 128 % 2 = 1) else cpLocalSelect cp
  let rgb := if constant then c0 else iter
  let a : Int := match cpAlphaLocalSelect cp with
    | 0 => iter.a
    | 1 => c0.a
    | 2 => sar (clampedZ s.iterClamp z) 8
    | _ => clampedW s.iterClamp w
  ⟨a, rgb.r, rgb.g, rgb.b⟩

/-- `Select(texel, iter)` (43_pixel.md R320); with the combine bypassed the LFB colour takes both places (90_conflicts.md
C7, log entry 25). -/
def select (s : State) (p : PixelIn) (texel : Argb) : Selected :=
  if p.bypass then ⟨p.iter, p.iter⟩
  else ⟨selectOther s texel p.iter, selectLocal s texel p.iter p.z p.w⟩

/-- One channel inside its chroma range (43_pixel.md R310). -/
def inChromaRange (lo hi c : Int) (exclusive : Bool) : Bool := (decide (lo ≤ c) && decide (c ≤ hi)) != exclusive

/-- The colour matches the chroma key (43_pixel.md R310). -/
def chromaMatch (s : State) (c : Argb) : Bool :=
  let key := colorOf s.chromaKey
  let cr := s.chromaRange
  if s.cfg.gen = .v1 ∨ ¬ rangeEnable cr then
    decide (c.r = key.r) && decide (c.g = key.g) && decide (c.b = key.b)
  else
    let inB := inChromaRange key.b (rangeBlueHigh cr) c.b (rangeBlueExclusive cr)
    let inG := inChromaRange key.g (rangeGreenHigh cr) c.g (rangeGreenExclusive cr)
    let inR := inChromaRange key.r (rangeRedHigh cr) c.r (rangeRedExclusive cr)
    if rangeUnion cr then inR || inG || inB else inR && inG && inB

/-- `ChromaKey` (43_pixel.md R310). -/
def chromaPass (s : State) (c : Argb) : Bool := !fbzChromaKey s.fbzMode || !chromaMatch s c

/-- `AlphaMask` (43_pixel.md R311): the low bit of the other alpha. -/
def alphaMaskPass (s : State) (a : Int) : Bool := !fbzAlphaMask s.fbzMode || decide (a % 2 = 1)

/-- The combine fields of fbzColorPath (10_state.md R31). -/
def colorCombineCtl (cp : Word) : CombineCtl where
  zeroOther := cpZeroOther cp
  subLocal := cpSubLocal cp
  reverseBlend := cpReverseBlend cp
  addLocal := cpAddLocal cp
  invertOutput := cpInvertOutput cp
  aZeroOther := cpAlphaZeroOther cp
  aSubLocal := cpAlphaSubLocal cp
  aReverseBlend := cpAlphaReverseBlend cp
  aAddLocal := cpAlphaAddLocal cp
  aInvertOutput := cpAlphaInvertOutput cp

/-- One RGB entry of the colour-combine multiplier menu (43_pixel.md R321): `c` and `t` are the channel of the local colour
and of the texel. -/
def colorMenu (gen : Gen) (code : Nat) (sel : Selected) (texel : Argb) (c t : Int) : Int :=
  match code with
  | 1 => c
  | 2 => sel.other.a
  | 3 => sel.loc.a
  | 4 => texel.a
  | 5 => if gen = .v2 then t else 0
  | _ => 0

/-- The alpha column of the menu (43_pixel.md R321). -/
def colorAlphaMenu (code : Nat) (sel : Selected) (texel : Argb) : Int :=
  match code with
  | 1 => sel.loc.a
  | 2 => sel.other.a
  | 3 => sel.loc.a
  | 4 => texel.a
  | _ => 0

/-- `ColorCombine` (43_pixel.md R321, R322). -/
def colorCombine (s : State) (sel : Selected) (texel : Argb) : Argb :=
  let cp := s.fbzColorPath
  let rgb (c t : Int) : Int := colorMenu s.cfg.gen (cpMSelect cp) sel texel c t
  let m : Argb := ⟨colorAlphaMenu (cpAlphaMSelect cp) sel texel, rgb sel.loc.r texel.r, rgb sel.loc.g texel.g,
    rgb sel.loc.b texel.b⟩
  combine (colorCombineCtl cp) m sel.other sel.loc

/-- The combined source colour of a pixel; the LFB colour itself when the combine is bypassed (90_conflicts.md C7). -/
def combinedColor (s : State) (p : PixelIn) (sel : Selected) (texel : Argb) : Argb :=
  if p.bypass then p.iter else colorCombine s sel texel

/-- `AlphaTest` (43_pixel.md R323). -/
def alphaPass (s : State) (a : Int) : Bool :=
  !alphaTestEnable s.alphaMode || compare8 (alphaFunction s.alphaMode) a (alphaRef s.alphaMode)

/-! ### Fog (43_pixel.md R330, R331) -/

/-- `DMASK` (43_pixel.md R331). -/
def fogDeltaMask (gen : Gen) : Byte :=
  match gen with
  | .v1 => 0xFF
  | .v2 => 0xFC

/-- The fog-table blend of `wfloat` (43_pixel.md R331, source 0). -/
def fogTableBlend (s : State) (x y : Int) (wfloat : Nat) : Int :=
  let fm := s.fogMode
  let v2 := decide (s.cfg.gen = .v2)
  let i := wfloat / 1024
  let delta := readTable 0 s.fogDelta i
  let dv0 : Int := ((delta &&& fogDeltaMask s.cfg.gen).toNat * (wfloat / 4 % 256) : Nat)
  let dv1 := if v2 && fogZones fm && bit delta 1 then -dv0 else dv0
  let dv2 := sar dv1 6
  let dv3 := if v2 && fogDither fm then dv2 + (dither4 y x : Int) else dv2
  ((readTable 0 s.fogBlend i).toNat : Int) + sar dv3 4

/-- `FogBlend()` (43_pixel.md R331). -/
def fogBlendValue (s : State) (p : PixelIn) : Int :=
  match fogSource s.fogMode with
  | 0 => fogTableBlend s p.x p.y (wFloating p.w)
  | 1 => p.iter.a
  | 2 => sar (clampedZ s.iterClamp p.z) 8
  | _ => if s.cfg.gen = .v2 then clampedW s.iterClamp p.w else 0

/-- One channel of the fog (43_pixel.md R330): `c` the source, `f` the fog colour's channel, `blend` of FogBlend. -/
def fogChannel (fm : Word) (blend c f : Int) : Int :=
  let term :=
    if fogConstant fm then f
    else
      let f0 := if fogAdd fm then 0 else f
      let f1 := if fogMult fm then f0 else f0 - c
      sar (f1 * (blend + 1)) 8
  clampInt (if fogMult fm then term else c + term) 0 255

/-- `Fog` (43_pixel.md R330); alpha passes through. -/
def fog (s : State) (p : PixelIn) (c : Argb) : Argb :=
  let fm := s.fogMode
  if ¬ fogEnable fm then c
  else
    let f := colorOf s.fogColor
    let blend := fogBlendValue s p
    ⟨c.a, fogChannel fm blend c.r f.r, fogChannel fm blend c.g f.g, fogChannel fm blend c.b f.b⟩

/-! ### Alpha blending (43_pixel.md R340, R341) -/

/-- `MUL(x, f)`. -/
def mulFactor (x f : Int) : Int := sar (x * (f + 1)) 8

/-- `IMUL(x, f)`. -/
def imulFactor (x f : Int) : Int := sar (x * (0x100 - f)) 8

/-- The source term of one channel (43_pixel.md R340): `v` the source, `d` the destination, `sa` and `da` their alphas. -/
def srcTerm (code : Nat) (v d sa da : Int) : Int :=
  match code with
  | 1 => mulFactor v sa
  | 2 => mulFactor v d
  | 3 => mulFactor v da
  | 4 => v
  | 5 => imulFactor v sa
  | 6 => imulFactor v d
  | 7 => imulFactor v da
  | 15 => mulFactor v (min sa (0x100 - da))
  | _ => 0

/-- The destination term of one channel (43_pixel.md R340): `prefog` is the channel's colour before fog. -/
def dstTerm (gen : Gen) (code : Nat) (v d sa da prefog : Int) : Int :=
  match code with
  | 1 => mulFactor d sa
  | 2 => mulFactor d v
  | 3 => mulFactor d da
  | 4 => d
  | 5 => imulFactor d sa
  | 6 => imulFactor d v
  | 7 => imulFactor d da
  | 15 => if gen = .v2 then mulFactor d prefog else 0
  | _ => 0

/-- `DITHER2` or `DITHER4` by dither_type, for `DSEL` and `Reduce` (43_pixel.md R341, R350). -/
def ditherSelect (fbz : Word) (y x : Int) : Nat := if fbzDither2x2 fbz then dither2 y x else dither4 y x

/-- The destination colour and alpha (43_pixel.md R341). -/
def blendDestination (s : State) (p : PixelIn) : Argb :=
  let fbz := s.fbzMode
  let d := (fbRead16 s (pixelAddr s p.base p.scry p.x)).toNat
  let da : Int := match s.surf.aux with
    | some aux => if fbzAlphaPlanes fbz then (fbRead16 s (pixelAddr s aux p.scry p.x)).toNat else 0xFF
    | none => 0xFF
  let dr : Int := (d / 2 ^ 11 * 8 : Nat)
  let dg : Int := (d / 2 ^ 5 % 64 * 4 : Nat)
  let db : Int := (d % 32 * 8 : Nat)
  if fbzDitherSubtract fbz then
    let k : Int := (ditherSelect fbz p.y p.x : Int)
    ⟨da, sar (dr * 2 + 15 - k) 1, sar (dg * 4 + 15 - k) 2, sar (db * 2 + 15 - k) 1⟩
  else ⟨da, dr, dg, db⟩

/-- `Blend` (43_pixel.md R341): `c` the fogged colour, `prefog` the colour before fog. -/
def blend (s : State) (p : PixelIn) (c prefog : Argb) : Argb :=
  let am := s.alphaMode
  if ¬ alphaBlendEnable am then c
  else
    let d := blendDestination s p
    let ch (v dv pf : Int) : Int :=
      clampInt (srcTerm (alphaSrcRgb am) v dv c.a d.a + dstTerm s.cfg.gen (alphaDstRgb am) v dv c.a d.a pf) 0 255
    { a := clampInt ((if alphaSrcAlpha am = 4 then c.a else 0) + (if alphaDstAlpha am = 4 then d.a else 0)) 0 255
      r := ch c.r d.r prefog.r
      g := ch c.g d.g prefog.g
      b := ch c.b d.b prefog.b }

/-! ### Reduction and write (43_pixel.md R350, R351) -/

/-- `Reduce(r, g, b, x, y)` (43_pixel.md R350), for channels 0..255. -/
def reduce565 (fbz : Word) (c : Argb) (x y : Int) : Half :=
  if fbzDithering fbz then
    let k : Int := (ditherSelect fbz y x : Int)
    let r5 := sar (c.r * 2 - sar c.r 4 + sar c.r 7 + k) 4
    let g6 := sar (c.g * 4 - sar c.g 4 + sar c.g 6 + k) 4
    let b5 := sar (c.b * 2 - sar c.b 4 + sar c.b 7 + k) 4
    BitVec.ofInt 16 (r5 * 2 ^ 11 + g6 * 2 ^ 5 + b5)
  else BitVec.ofInt 16 (sar c.r 3 * 2 ^ 11 + sar c.g 2 * 2 ^ 5 + sar c.b 3)

/-- The colour write of a pixel (43_pixel.md R351). -/
def writeColor (p : PixelIn) (c : Argb) (s : State) : State :=
  if fbzRgbMask s.fbzMode then
    fbWrite16 (pixelAddr s p.base p.scry p.x) (reduce565 s.fbzMode c p.x p.y) s
  else s

/-- The aux write of a pixel (43_pixel.md R351; 44_commands.md R385): it asks for aux_buffer_mask and not for
enable_depthbuf, whose row of 10_state.md R34 also says "depth write enable" (DEDUCED, log entry 42). -/
def writeAux (p : PixelIn) (a depth : Int) (s : State) : State :=
  match s.surf.aux with
  | none => s
  | some aux =>
    if fbzAuxMask s.fbzMode ∧ p.auxWrite then
      fbWrite16 (pixelAddr s aux p.scry p.x) (BitVec.ofInt 16 (if fbzAlphaPlanes s.fbzMode then a else depth)) s
    else s

/-- `Write(a, r, g, b)` (43_pixel.md R351). -/
def writePixel (p : PixelIn) (c : Argb) (depth : Int) (s : State) : State :=
  addPixelsOut 1 (writeAux p c.a depth (writeColor p c s))

/-- The stages after the texture stage (43_pixel.md R302). -/
def shadePixel (p : PixelIn) (depth : Int) (texel : Argb) (s : State) : State :=
  let sel := select s p texel
  if ¬ chromaPass s sel.other then failChroma s
  else if ¬ alphaMaskPass s sel.other.a then failAfunc s
  else
    let c := combinedColor s p sel texel
    if ¬ alphaPass s c.a then failAfunc s
    else writePixel p (blend s p (fog s p c) c) depth s

/-- `Pixel(dst, x, y, scry, ntmu)` (43_pixel.md R302): the first failing test ends the pixel and counts one statistic; the
texture stage runs only after the depth test passed and may refuse. -/
def pixel (p : PixelIn) (s : State) : Out :=
  let s := stippleStep (addPixelsIn 1 s)
  if ¬ stipplePass s p.x p.y then .next (failStipple s)
  else
    let depth := depthValue s p.z p.w
    if ¬ depthPass s p.x p.scry depth then .next (failZfunc s)
    else match texturePipeline s p.x p.y p.tex with
      | .error r => .refused r
      | .ok texel => .next (shadePixel p depth texel s)

end Sys2Proof.Machine
end

