-- ==== Sys2Proof/Machine/Command.lean ====
section
/-! DEFINITION. nopCMD, fastfillCMD and swapbufferCMD (44_commands.md R360 to R371). -/

namespace Sys2Proof.Machine

/-- nopCMD (44_commands.md R360; log entry 40). -/
def nopWrite (_ : ChipSet) (data : Word) (s : State) : Out :=
  let s := if bit data 0 then clearPixelStats s else s
  .next (if bit data 1 then clearTriangles s else s)

/-- One row of a fast fill: `v x` at every column of the rectangle (44_commands.md R362). -/
def fillRow (base : Nat) (scry : Int) (v : Int → Half) (s : State) : State :=
  foldState (fun x s => fbWrite16 (pixelAddr s base scry x) (v x) s) (intRange s.clipLeft s.clipRight) s

/-- The colour part of a row: `PAT[y & 3][x & 3]`, which `reduce565` gives since it reads only the low two bits of its
coordinates; the columns count as pixels out (44_commands.md R362). -/
def fillColorRow (y : Int) (s : State) : State :=
  match s.drawOffset with
  | none => s
  | some base =>
    if fbzRgbMask s.fbzMode then
      addPixelsOut (s.clipRight - s.clipLeft).toNat
        (fillRow base (screenY s y) (fun x => reduce565 s.fbzMode (colorOf s.color1) x y) s)
    else s

/-- The aux part of a row (44_commands.md R362). -/
def fillAuxRow (y : Int) (s : State) : State :=
  match s.surf.aux with
  | none => s
  | some aux => if fbzAuxMask s.fbzMode then fillRow aux (screenY s y) (fun _ => s.zaDepth) s else s

/-- fastfillCMD (44_commands.md R362): the rows of the clip rectangle, top to bottom. -/
def fastfill (s : State) : State :=
  foldState (fun y s => fillAuxRow y (fillColorRow y s)) (intRange s.clipLowY s.clipHighY) s

/-- swapbufferCMD (44_commands.md R370): an immediate swap, or on V1 with data[0] the hold, which ends at the VBlank event
of R372. -/
def swapWrite (_ : ChipSet) (data : Word) (s : State) : Out :=
  let v2 := decide (s.cfg.gen = .v2)
  let s := { s with swap := { s.swap with interval := field data 1 8, dontSwap := v2 && bit data 9 } }
  if v2 || !bit data 0 then .next (swapBuffers s)
  else .next { s with swap := { s.swap with pending := true } }

/-- nopCMD (44_commands.md R360). -/
def execNopCMD (a : RegAccess) (s : State) : Out :=
  storedReg 0x48 nopWrite a s

/-- fastfillCMD (44_commands.md R362). -/
def execFastfillCMD (a : RegAccess) (s : State) : Out :=
  storedReg 0x49 (fun _ _ s => .next (fastfill s)) a s

/-- swapbufferCMD (44_commands.md R370). -/
def execSwapbufferCMD (a : RegAccess) (s : State) : Out :=
  storedReg 0x4A swapWrite a s

end Sys2Proof.Machine
end

