-- ==== Sys2Proof/Machine/Fifo.lean ====
section
/-! DEFINITION. The command-FIFO and blitter registers (40_register_access.md R173). -/

namespace Sys2Proof.Machine

/-- cmdFifoBaseAddr: reserved on V1; on V2 a write refuses (40_register_access.md R173) and a read has no R flag (log entry 19). -/
def execCmdFifoBaseAddr (a : RegAccess) (s : State) : Out :=
  storedReg 0x78 storeOnly a s

/-- cmdFifoBump: reserved on V1; on V2 a write refuses (40_register_access.md R173) and a read has no R flag (log entry 19). -/
def execCmdFifoBump (a : RegAccess) (s : State) : Out :=
  storedReg 0x79 storeOnly a s

/-- cmdFifoRdPtr: reserved on V1; on V2 a write refuses (40_register_access.md R173) and a read has no R flag (log entry 19). -/
def execCmdFifoRdPtr (a : RegAccess) (s : State) : Out :=
  storedReg 0x7A storeOnly a s

/-- cmdFifoAMin: reserved on V1; on V2 a write refuses (40_register_access.md R173) and a read has no R flag (log entry 19). -/
def execCmdFifoAMin (a : RegAccess) (s : State) : Out :=
  storedReg 0x7B storeOnly a s

/-- cmdFifoAMax: reserved on V1; on V2 a write refuses (40_register_access.md R173) and a read has no R flag (log entry 19). -/
def execCmdFifoAMax (a : RegAccess) (s : State) : Out :=
  storedReg 0x7C storeOnly a s

/-- cmdFifoDepth: reserved on V1; on V2 a write refuses (40_register_access.md R173) and a read has no R flag (log entry 19). -/
def execCmdFifoDepth (a : RegAccess) (s : State) : Out :=
  storedReg 0x7D storeOnly a s

/-- cmdFifoHoles: reserved on V1; on V2 a write refuses (40_register_access.md R173) and a read has no R flag (log entry 19). -/
def execCmdFifoHoles (a : RegAccess) (s : State) : Out :=
  storedReg 0x7E storeOnly a s

/-- A 2D blitter register: reserved on V1; on V2 a write refuses (40_register_access.md R173) and a read has no R flag (log
entry 19). -/
def execBlt (n : RegNum) (a : RegAccess) (s : State) : Out :=
  storedReg n storeOnly a s

end Sys2Proof.Machine
end

