-- ==== Sys2Proof/Machine/FogTable.lean ====
section
/-! DEFINITION. The fog table (40_register_access.md R187; 43_pixel.md R333). -/

namespace Sys2Proof.Machine

/-- A write of fogTable[i]: two entries of the fog table (40_register_access.md R187; 10_state.md R43). -/
def fogTableWrite (i : Nat) (_ : ChipSet) (data : Word) (s : State) : Out :=
  let delta := writeTable 0 (writeTable 0 s.fogDelta (2 * i) (field data 0 8)) (2 * i + 1) (field data 16 8)
  let blend := writeTable 0 (writeTable 0 s.fogBlend (2 * i) (field data 8 8)) (2 * i + 1) (field data 24 8)
  .next { s with fogDelta := delta, fogBlend := blend }

/-- fogTable[0] (40_register_access.md R187). -/
def execFogTable0 (a : RegAccess) (s : State) : Out :=
  storedReg 0x58 (fogTableWrite 0) a s

/-- fogTable[1] (40_register_access.md R187). -/
def execFogTable1 (a : RegAccess) (s : State) : Out :=
  storedReg 0x59 (fogTableWrite 1) a s

/-- fogTable[2] (40_register_access.md R187). -/
def execFogTable2 (a : RegAccess) (s : State) : Out :=
  storedReg 0x5A (fogTableWrite 2) a s

/-- fogTable[3] (40_register_access.md R187). -/
def execFogTable3 (a : RegAccess) (s : State) : Out :=
  storedReg 0x5B (fogTableWrite 3) a s

/-- fogTable[4] (40_register_access.md R187). -/
def execFogTable4 (a : RegAccess) (s : State) : Out :=
  storedReg 0x5C (fogTableWrite 4) a s

/-- fogTable[5] (40_register_access.md R187). -/
def execFogTable5 (a : RegAccess) (s : State) : Out :=
  storedReg 0x5D (fogTableWrite 5) a s

/-- fogTable[6] (40_register_access.md R187). -/
def execFogTable6 (a : RegAccess) (s : State) : Out :=
  storedReg 0x5E (fogTableWrite 6) a s

/-- fogTable[7] (40_register_access.md R187). -/
def execFogTable7 (a : RegAccess) (s : State) : Out :=
  storedReg 0x5F (fogTableWrite 7) a s

/-- fogTable[8] (40_register_access.md R187). -/
def execFogTable8 (a : RegAccess) (s : State) : Out :=
  storedReg 0x60 (fogTableWrite 8) a s

/-- fogTable[9] (40_register_access.md R187). -/
def execFogTable9 (a : RegAccess) (s : State) : Out :=
  storedReg 0x61 (fogTableWrite 9) a s

/-- fogTable[10] (40_register_access.md R187). -/
def execFogTable10 (a : RegAccess) (s : State) : Out :=
  storedReg 0x62 (fogTableWrite 10) a s

/-- fogTable[11] (40_register_access.md R187). -/
def execFogTable11 (a : RegAccess) (s : State) : Out :=
  storedReg 0x63 (fogTableWrite 11) a s

/-- fogTable[12] (40_register_access.md R187). -/
def execFogTable12 (a : RegAccess) (s : State) : Out :=
  storedReg 0x64 (fogTableWrite 12) a s

/-- fogTable[13] (40_register_access.md R187). -/
def execFogTable13 (a : RegAccess) (s : State) : Out :=
  storedReg 0x65 (fogTableWrite 13) a s

/-- fogTable[14] (40_register_access.md R187). -/
def execFogTable14 (a : RegAccess) (s : State) : Out :=
  storedReg 0x66 (fogTableWrite 14) a s

/-- fogTable[15] (40_register_access.md R187). -/
def execFogTable15 (a : RegAccess) (s : State) : Out :=
  storedReg 0x67 (fogTableWrite 15) a s

/-- fogTable[16] (40_register_access.md R187). -/
def execFogTable16 (a : RegAccess) (s : State) : Out :=
  storedReg 0x68 (fogTableWrite 16) a s

/-- fogTable[17] (40_register_access.md R187). -/
def execFogTable17 (a : RegAccess) (s : State) : Out :=
  storedReg 0x69 (fogTableWrite 17) a s

/-- fogTable[18] (40_register_access.md R187). -/
def execFogTable18 (a : RegAccess) (s : State) : Out :=
  storedReg 0x6A (fogTableWrite 18) a s

/-- fogTable[19] (40_register_access.md R187). -/
def execFogTable19 (a : RegAccess) (s : State) : Out :=
  storedReg 0x6B (fogTableWrite 19) a s

/-- fogTable[20] (40_register_access.md R187). -/
def execFogTable20 (a : RegAccess) (s : State) : Out :=
  storedReg 0x6C (fogTableWrite 20) a s

/-- fogTable[21] (40_register_access.md R187). -/
def execFogTable21 (a : RegAccess) (s : State) : Out :=
  storedReg 0x6D (fogTableWrite 21) a s

/-- fogTable[22] (40_register_access.md R187). -/
def execFogTable22 (a : RegAccess) (s : State) : Out :=
  storedReg 0x6E (fogTableWrite 22) a s

/-- fogTable[23] (40_register_access.md R187). -/
def execFogTable23 (a : RegAccess) (s : State) : Out :=
  storedReg 0x6F (fogTableWrite 23) a s

/-- fogTable[24] (40_register_access.md R187). -/
def execFogTable24 (a : RegAccess) (s : State) : Out :=
  storedReg 0x70 (fogTableWrite 24) a s

/-- fogTable[25] (40_register_access.md R187). -/
def execFogTable25 (a : RegAccess) (s : State) : Out :=
  storedReg 0x71 (fogTableWrite 25) a s

/-- fogTable[26] (40_register_access.md R187). -/
def execFogTable26 (a : RegAccess) (s : State) : Out :=
  storedReg 0x72 (fogTableWrite 26) a s

/-- fogTable[27] (40_register_access.md R187). -/
def execFogTable27 (a : RegAccess) (s : State) : Out :=
  storedReg 0x73 (fogTableWrite 27) a s

/-- fogTable[28] (40_register_access.md R187). -/
def execFogTable28 (a : RegAccess) (s : State) : Out :=
  storedReg 0x74 (fogTableWrite 28) a s

/-- fogTable[29] (40_register_access.md R187). -/
def execFogTable29 (a : RegAccess) (s : State) : Out :=
  storedReg 0x75 (fogTableWrite 29) a s

/-- fogTable[30] (40_register_access.md R187). -/
def execFogTable30 (a : RegAccess) (s : State) : Out :=
  storedReg 0x76 (fogTableWrite 30) a s

/-- fogTable[31] (40_register_access.md R187). -/
def execFogTable31 (a : RegAccess) (s : State) : Out :=
  storedReg 0x77 (fogTableWrite 31) a s

end Sys2Proof.Machine
end

