-- ==== Sys2Proof/Machine/Init.lean ====
section
/-! DEFINITION. The memory-layout and video-timing registers (40_register_access.md R176, R177). -/

namespace Sys2Proof.Machine

/-- A memory-layout write: the surface layout is recomputed and the buffer indices are checked (40_register_access.md R176).
fbiInit0 and fbiInit4 do neither (log entry 44). -/
def initWrite (_ : ChipSet) (_ : Word) (s : State) : Out := .next (relayout s)

/-- A video-timing write: the collaborator is notified (40_register_access.md R177; log entry 37). -/
def timingWrite (n : RegNum) (_ : ChipSet) (data : Word) (s : State) : Out := .next (emit (.timingChanged n data) s)

/-- fbiInit0, which FB_LAYOUT does not read: stored only (70_reset_and_hazards.md R432; 40_register_access.md R176; 10_state.md
R44; log entry 44). -/
def execFbiInit0 (a : RegAccess) (s : State) : Out :=
  storedReg 0x84 storeOnly a s

/-- fbiInit1 (40_register_access.md R176; 10_state.md R44). -/
def execFbiInit1 (a : RegAccess) (s : State) : Out :=
  storedReg 0x85 initWrite a s

/-- fbiInit2 (40_register_access.md R176; 10_state.md R44). -/
def execFbiInit2 (a : RegAccess) (s : State) : Out :=
  storedReg 0x86 initWrite a s

/-- fbiInit3 (40_register_access.md R176; 10_state.md R44). -/
def execFbiInit3 (a : RegAccess) (s : State) : Out :=
  storedReg 0x87 initWrite a s

/-- fbiInit4, which FB_LAYOUT does not read: stored only (70_reset_and_hazards.md R432; 40_register_access.md R176; 10_state.md
R44; log entry 44). -/
def execFbiInit4 (a : RegAccess) (s : State) : Out :=
  storedReg 0x80 storeOnly a s

/-- fbiInit5 (40_register_access.md R176; 10_state.md R44). -/
def execFbiInit5 (a : RegAccess) (s : State) : Out :=
  storedReg 0x91 initWrite a s

/-- fbiInit6 (40_register_access.md R176; 10_state.md R44). -/
def execFbiInit6 (a : RegAccess) (s : State) : Out :=
  storedReg 0x92 initWrite a s

/-- fbiInit7 (40_register_access.md R176; 10_state.md R44). -/
def execFbiInit7 (a : RegAccess) (s : State) : Out :=
  storedReg 0x93 initWrite a s

/-- backPorch (40_register_access.md R177; 10_state.md R45). -/
def execBackPorch (a : RegAccess) (s : State) : Out :=
  storedReg 0x82 (timingWrite 0x82) a s

/-- videoDimensions (40_register_access.md R177; 10_state.md R45). -/
def execVideoDimensions (a : RegAccess) (s : State) : Out :=
  storedReg 0x83 (timingWrite 0x83) a s

/-- hSync (40_register_access.md R177; 10_state.md R45). -/
def execHSync (a : RegAccess) (s : State) : Out :=
  storedReg 0x88 (timingWrite 0x88) a s

/-- vSync (40_register_access.md R177; 10_state.md R45). -/
def execVSync (a : RegAccess) (s : State) : Out :=
  storedReg 0x89 (timingWrite 0x89) a s

/-- hBorder (40_register_access.md R177; 10_state.md R45). -/
def execHBorder (a : RegAccess) (s : State) : Out :=
  storedReg 0x8D (timingWrite 0x8D) a s

/-- vBorder (40_register_access.md R177; 10_state.md R45). -/
def execVBorder (a : RegAccess) (s : State) : Out :=
  storedReg 0x8E (timingWrite 0x8E) a s

end Sys2Proof.Machine
end

