-- ==== Sys2Proof/Machine/Lfb.lean ====
section
/-! DEFINITION. Linear-frame-buffer writes and reads (44_commands.md R380 to R390). -/

namespace Sys2Proof.Machine

/-- The color surface of lfbMode.write_buffer_select or read_buffer_select 0 or 1 (44_commands.md R380, R390). -/
def State.lfbSurface (s : State) (select : Nat) : Option Nat := if select = 0 then s.frontOffset else s.backOffset

/-- The column of pixel `k` of LFB word `l` (44_commands.md R383). -/
def lfbX (two : Bool) (l : BitVec 20) (k : Nat) : Int :=
  if two then ((2 * l.toNat % 1024 + k : Nat) : Int) else ((l.toNat % 1024 : Nat) : Int)

/-- The row of LFB word `l` (44_commands.md R383). -/
def lfbY (two : Bool) (l : BitVec 20) : Int :=
  if two then ((2 * l.toNat / 1024 % 1024 : Nat) : Int) else ((l.toNat / 1024 % 1024 : Nat) : Int)

/-- The screen row of the raw path and of reads, by lfbMode.y_origin (44_commands.md R383, R390). -/
def lfbScreenY (s : State) (y : Int) : Int := if lfbYOrigin s.lfbMode then flipRow s y else y

/-- The aux offset is in range (44_commands.md R383). -/
def auxInRange (s : State) (off : Int) : Bool :=
  match s.surf.aux with
  | none => false
  | some aux => offsetInRange s aux off

/-- The colour store of a raw LFB pixel (44_commands.md R384). -/
def rawColor (base : Nat) (carries : LfbCarries) (p : LfbPixel) (x y scry : Int) (s : State) : State :=
  if carries.rgb ∧ offsetInRange s base (pixelOffset s scry x) then
    fbWrite16 (pixelAddr s base scry x) (reduce565 s.fbzMode p.color x y) s
  else s

/-- The aux store of a raw LFB pixel (44_commands.md R384): the alpha plane or the depth. -/
def rawAux (carries : LfbCarries) (p : LfbPixel) (x scry : Int) (s : State) : State :=
  match s.surf.aux with
  | none => s
  | some aux =>
    if offsetInRange s aux (pixelOffset s scry x) then
      if fbzAlphaPlanes s.fbzMode then
        (if carries.alpha then fbWrite16 (pixelAddr s aux scry x) (BitVec.ofInt 16 p.color.a) s else s)
      else (if carries.depth then fbWrite16 (pixelAddr s aux scry x) p.depth s else s)
    else s

/-- A pixel of the raw path (44_commands.md R384). -/
def rawPixel (base : Nat) (carries : LfbCarries) (p : LfbPixel) (x y : Int) (s : State) : State :=
  let scry := lfbScreenY s y
  addPixelsOut 1 (rawAux carries p x scry (rawColor base carries p x y scry s))

/-- What the pipeline sees of an LFB pixel (44_commands.md R385): the colour unclamped, Z and W from the depth, no active
texture unit. -/
def lfbPixelIn (s : State) (base : Nat) (p : LfbPixel) (x y scry : Int) : PixelIn where
  base := base
  x := x
  y := y
  scry := scry
  iter := p.color
  z := p.depth.setWidth 32 <<< 12
  w := p.depth.setWidth 64 <<< 14
  tex := ⟨0, ⟨0, 0, 0⟩, ⟨0, 0, 0⟩⟩
  auxWrite := auxInRange s (pixelOffset s scry x)
  bypass := decide (s.cfg.lfbCombine = .bypass)

/-- The pixel is outside the clip rectangle (44_commands.md R385). -/
def lfbClipped (s : State) (x scry : Int) : Bool :=
  fbzClipping s.fbzMode &&
    (decide (x < s.clipLeft) || decide (s.clipRight ≤ x) || decide (scry < s.clipLowY) || decide (s.clipHighY ≤ scry))

/-- A pixel of the pipeline path (44_commands.md R385). -/
def pipelinePixel (base : Nat) (p : LfbPixel) (x y : Int) (s : State) : Out :=
  let scry := screenY s y
  if ¬ offsetInRange s base (pixelOffset s scry x) then .next s
  else if lfbClipped s x scry then .next (addClipFail 1 (addPixelsIn 1 s))
  else pixel (lfbPixelIn s base p x y scry) s

/-- The incoming word, rearranged by lfbMode (44_commands.md R380, step 1). -/
def lfbWriteData (mode : Word) (d : Word) : Word :=
  let d := if lfbSwizzleWrites mode then swizzle d else d
  if lfbWordSwapWrites mode then wswap d else d

/-- One decoded pixel of an LFB write, by the raw or the pipeline path (44_commands.md R380, step 5). -/
def lfbWritePixel (base : Nat) (carries : LfbCarries) (l : BitVec 20) (data : Word) (k : Nat) (s : State) : Out :=
  let mode := s.lfbMode
  let format := lfbWriteFormat mode
  let two := lfbTwoPixels format
  let p := lfbDecode format (lfbLanes mode) s.zaAlpha s.zaDepth data k
  if lfbPipeline mode then pipelinePixel base p (lfbX two l k) (lfbY two l) s
  else .next (rawPixel base carries p (lfbX two l k) (lfbY two l) s)

/-- The pixels of an LFB word (44_commands.md R381). -/
def lfbPixels (format : Nat) : List Nat := if lfbTwoPixels format then [0, 1] else [0]

/-- lfb.wr (44_commands.md R380). -/
def execLfbWr (l : BitVec 20) (data : Word) (s : State) : Out :=
  let mode := s.lfbMode
  let format := lfbWriteFormat mode
  match lfbCarries format with
  | none => dropWrite (.lfbReservedFormat (BitVec.ofNat 4 format)) s
  | some carries =>
    if 2 ≤ lfbWriteBuffer mode then dropWrite .lfbReservedBuffer s
    else match s.lfbSurface (lfbWriteBuffer mode) with
      | none => .next s
      | some base => foldOut (lfbWritePixel base carries l (lfbWriteData mode data)) (lfbPixels format) s

/-- The surface of an LFB read (44_commands.md R390). -/
def State.lfbReadSurface (s : State) : Option Nat :=
  match lfbReadBuffer s.lfbMode with
  | 0 => s.frontOffset
  | 1 => s.backOffset
  | 2 => s.surf.aux
  | _ => none

/-- The word of an LFB read, rearranged by lfbMode (44_commands.md R390). -/
def lfbReadData (mode : Word) (v : Word) : Word :=
  let v := if lfbWordSwapReads mode then wswap v else v
  if lfbSwizzleReads mode then swizzle v else v

/-- The value of an LFB read (44_commands.md R390). -/
def lfbReadValue (l : BitVec 20) (s : State) : Word :=
  match s.lfbReadSurface with
  | none => allOnes
  | some base =>
    let x : Int := (2 * l.toNat % 1024 : Nat)
    let y : Int := (l.toNat / 512 % 1024 : Nat)
    let scry := lfbScreenY s y
    if ¬ offsetInRange s base (pixelOffset s scry x) then allOnes
    else
      let a := pixelAddr s base scry x
      lfbReadData s.lfbMode (fbRead16 s (a + 1) ++ fbRead16 s a)

/-- lfb.rd (44_commands.md R390). -/
def execLfbRd (l : BitVec 20) (s : State) : Out := answerRead (lfbReadValue l s) s

end Sys2Proof.Machine
end

