-- ==== Sys2Proof/Machine/Params.lean ====
section
/-! DEFINITION. The parameter registers, fixed-point and binary32 (30_encoding.md R140 to R145; 40_register_access.md R175). -/

namespace Sys2Proof.Machine

/-- A parameter of the FBI: the iterators change when the chip set has the FBI (40_register_access.md R175). -/
def fbiParam (put : Word → FbiIter → FbiIter) (chips : ChipSet) (data : Word) (s : State) : Out :=
  .next (updateFbi chips (put data) s)

/-- A parameter of the TMUs: the iterators of each TMU of the chip set change (40_register_access.md R175). -/
def tmuParam (put : Word → Tmu → Tmu) (chips : ChipSet) (data : Word) (s : State) : Out :=
  .next (updateTmus chips (put data) s)

/-- A parameter of both (40_register_access.md R175). -/
def bothParam (putFbi : Word → FbiIter → FbiIter) (putTmu : Word → Tmu → Tmu) (chips : ChipSet) (data : Word)
    (s : State) : Out :=
  .next (updateTmus chips (putTmu data) (updateFbi chips (putFbi data) s))

/-- vertexAx (30_encoding.md R140; 40_register_access.md R175). -/
def execVertexAx (a : RegAccess) (s : State) : Out :=
  storedReg 0x02 (fbiParam fun d f => { f with vax := vertexFixed d }) a s

/-- vertexAy (30_encoding.md R140; 40_register_access.md R175). -/
def execVertexAy (a : RegAccess) (s : State) : Out :=
  storedReg 0x03 (fbiParam fun d f => { f with vay := vertexFixed d }) a s

/-- vertexBx (30_encoding.md R140; 40_register_access.md R175). -/
def execVertexBx (a : RegAccess) (s : State) : Out :=
  storedReg 0x04 (fbiParam fun d f => { f with vbx := vertexFixed d }) a s

/-- vertexBy (30_encoding.md R140; 40_register_access.md R175). -/
def execVertexBy (a : RegAccess) (s : State) : Out :=
  storedReg 0x05 (fbiParam fun d f => { f with vby := vertexFixed d }) a s

/-- vertexCx (30_encoding.md R140; 40_register_access.md R175). -/
def execVertexCx (a : RegAccess) (s : State) : Out :=
  storedReg 0x06 (fbiParam fun d f => { f with vcx := vertexFixed d }) a s

/-- vertexCy (30_encoding.md R140; 40_register_access.md R175). -/
def execVertexCy (a : RegAccess) (s : State) : Out :=
  storedReg 0x07 (fbiParam fun d f => { f with vcy := vertexFixed d }) a s

/-- startR (30_encoding.md R141; 40_register_access.md R175). -/
def execStartR (a : RegAccess) (s : State) : Out :=
  storedReg 0x08 (fbiParam fun d f => { f with r := { f.r with start := colorFixed d } }) a s

/-- startG (30_encoding.md R141; 40_register_access.md R175). -/
def execStartG (a : RegAccess) (s : State) : Out :=
  storedReg 0x09 (fbiParam fun d f => { f with g := { f.g with start := colorFixed d } }) a s

/-- startB (30_encoding.md R141; 40_register_access.md R175). -/
def execStartB (a : RegAccess) (s : State) : Out :=
  storedReg 0x0A (fbiParam fun d f => { f with b := { f.b with start := colorFixed d } }) a s

/-- startZ (30_encoding.md R142; 40_register_access.md R175). -/
def execStartZ (a : RegAccess) (s : State) : Out :=
  storedReg 0x0B (fbiParam fun d f => { f with z := { f.z with start := depthFixed d } }) a s

/-- startA (30_encoding.md R141; 40_register_access.md R175). -/
def execStartA (a : RegAccess) (s : State) : Out :=
  storedReg 0x0C (fbiParam fun d f => { f with a := { f.a with start := colorFixed d } }) a s

/-- startS (30_encoding.md R143; 40_register_access.md R175). -/
def execStartS (a : RegAccess) (s : State) : Out :=
  storedReg 0x0D (tmuParam fun d t => { t with s := { t.s with start := coordFixed d } }) a s

/-- startT (30_encoding.md R143; 40_register_access.md R175). -/
def execStartT (a : RegAccess) (s : State) : Out :=
  storedReg 0x0E (tmuParam fun d t => { t with t := { t.t with start := coordFixed d } }) a s

/-- startW (30_encoding.md R144; 40_register_access.md R175). -/
def execStartW (a : RegAccess) (s : State) : Out :=
  storedReg 0x0F (bothParam (fun d f => { f with w := { f.w with start := wFixed d } })
    (fun d t => { t with w := { t.w with start := wFixed d } })) a s

/-- dRdX (30_encoding.md R141; 40_register_access.md R175). -/
def execDRdX (a : RegAccess) (s : State) : Out :=
  storedReg 0x10 (fbiParam fun d f => { f with r := { f.r with dx := colorFixed d } }) a s

/-- dGdX (30_encoding.md R141; 40_register_access.md R175). -/
def execDGdX (a : RegAccess) (s : State) : Out :=
  storedReg 0x11 (fbiParam fun d f => { f with g := { f.g with dx := colorFixed d } }) a s

/-- dBdX (30_encoding.md R141; 40_register_access.md R175). -/
def execDBdX (a : RegAccess) (s : State) : Out :=
  storedReg 0x12 (fbiParam fun d f => { f with b := { f.b with dx := colorFixed d } }) a s

/-- dZdX (30_encoding.md R142; 40_register_access.md R175). -/
def execDZdX (a : RegAccess) (s : State) : Out :=
  storedReg 0x13 (fbiParam fun d f => { f with z := { f.z with dx := depthFixed d } }) a s

/-- dAdX (30_encoding.md R141; 40_register_access.md R175). -/
def execDAdX (a : RegAccess) (s : State) : Out :=
  storedReg 0x14 (fbiParam fun d f => { f with a := { f.a with dx := colorFixed d } }) a s

/-- dSdX (30_encoding.md R143; 40_register_access.md R175). -/
def execDSdX (a : RegAccess) (s : State) : Out :=
  storedReg 0x15 (tmuParam fun d t => { t with s := { t.s with dx := coordFixed d } }) a s

/-- dTdX (30_encoding.md R143; 40_register_access.md R175). -/
def execDTdX (a : RegAccess) (s : State) : Out :=
  storedReg 0x16 (tmuParam fun d t => { t with t := { t.t with dx := coordFixed d } }) a s

/-- dWdX (30_encoding.md R144; 40_register_access.md R175). -/
def execDWdX (a : RegAccess) (s : State) : Out :=
  storedReg 0x17 (bothParam (fun d f => { f with w := { f.w with dx := wFixed d } })
    (fun d t => { t with w := { t.w with dx := wFixed d } })) a s

/-- dRdY (30_encoding.md R141; 40_register_access.md R175). -/
def execDRdY (a : RegAccess) (s : State) : Out :=
  storedReg 0x18 (fbiParam fun d f => { f with r := { f.r with dy := colorFixed d } }) a s

/-- dGdY (30_encoding.md R141; 40_register_access.md R175). -/
def execDGdY (a : RegAccess) (s : State) : Out :=
  storedReg 0x19 (fbiParam fun d f => { f with g := { f.g with dy := colorFixed d } }) a s

/-- dBdY (30_encoding.md R141; 40_register_access.md R175). -/
def execDBdY (a : RegAccess) (s : State) : Out :=
  storedReg 0x1A (fbiParam fun d f => { f with b := { f.b with dy := colorFixed d } }) a s

/-- dZdY (30_encoding.md R142; 40_register_access.md R175). -/
def execDZdY (a : RegAccess) (s : State) : Out :=
  storedReg 0x1B (fbiParam fun d f => { f with z := { f.z with dy := depthFixed d } }) a s

/-- dAdY (30_encoding.md R141; 40_register_access.md R175). -/
def execDAdY (a : RegAccess) (s : State) : Out :=
  storedReg 0x1C (fbiParam fun d f => { f with a := { f.a with dy := colorFixed d } }) a s

/-- dSdY (30_encoding.md R143; 40_register_access.md R175). -/
def execDSdY (a : RegAccess) (s : State) : Out :=
  storedReg 0x1D (tmuParam fun d t => { t with s := { t.s with dy := coordFixed d } }) a s

/-- dTdY (30_encoding.md R143; 40_register_access.md R175). -/
def execDTdY (a : RegAccess) (s : State) : Out :=
  storedReg 0x1E (tmuParam fun d t => { t with t := { t.t with dy := coordFixed d } }) a s

/-- dWdY (30_encoding.md R144; 40_register_access.md R175). -/
def execDWdY (a : RegAccess) (s : State) : Out :=
  storedReg 0x1F (bothParam (fun d f => { f with w := { f.w with dy := wFixed d } })
    (fun d t => { t with w := { t.w with dy := wFixed d } })) a s

/-- fvertexAx (30_encoding.md R145; 40_register_access.md R175). -/
def execFvertexAx (a : RegAccess) (s : State) : Out :=
  storedReg 0x22 (fbiParam fun d f => { f with vax := vertexFloat d }) a s

/-- fvertexAy (30_encoding.md R145; 40_register_access.md R175). -/
def execFvertexAy (a : RegAccess) (s : State) : Out :=
  storedReg 0x23 (fbiParam fun d f => { f with vay := vertexFloat d }) a s

/-- fvertexBx (30_encoding.md R145; 40_register_access.md R175). -/
def execFvertexBx (a : RegAccess) (s : State) : Out :=
  storedReg 0x24 (fbiParam fun d f => { f with vbx := vertexFloat d }) a s

/-- fvertexBy (30_encoding.md R145; 40_register_access.md R175). -/
def execFvertexBy (a : RegAccess) (s : State) : Out :=
  storedReg 0x25 (fbiParam fun d f => { f with vby := vertexFloat d }) a s

/-- fvertexCx (30_encoding.md R145; 40_register_access.md R175). -/
def execFvertexCx (a : RegAccess) (s : State) : Out :=
  storedReg 0x26 (fbiParam fun d f => { f with vcx := vertexFloat d }) a s

/-- fvertexCy (30_encoding.md R145; 40_register_access.md R175). -/
def execFvertexCy (a : RegAccess) (s : State) : Out :=
  storedReg 0x27 (fbiParam fun d f => { f with vcy := vertexFloat d }) a s

/-- fstartR (30_encoding.md R145; 40_register_access.md R175). -/
def execFstartR (a : RegAccess) (s : State) : Out :=
  storedReg 0x28 (fbiParam fun d f => { f with r := { f.r with start := colorFloat d } }) a s

/-- fstartG (30_encoding.md R145; 40_register_access.md R175). -/
def execFstartG (a : RegAccess) (s : State) : Out :=
  storedReg 0x29 (fbiParam fun d f => { f with g := { f.g with start := colorFloat d } }) a s

/-- fstartB (30_encoding.md R145; 40_register_access.md R175). -/
def execFstartB (a : RegAccess) (s : State) : Out :=
  storedReg 0x2A (fbiParam fun d f => { f with b := { f.b with start := colorFloat d } }) a s

/-- fstartZ (30_encoding.md R145; 40_register_access.md R175). -/
def execFstartZ (a : RegAccess) (s : State) : Out :=
  storedReg 0x2B (fbiParam fun d f => { f with z := { f.z with start := depthFloat d } }) a s

/-- fstartA (30_encoding.md R145; 40_register_access.md R175). -/
def execFstartA (a : RegAccess) (s : State) : Out :=
  storedReg 0x2C (fbiParam fun d f => { f with a := { f.a with start := colorFloat d } }) a s

/-- fstartS (30_encoding.md R145; 40_register_access.md R175). -/
def execFstartS (a : RegAccess) (s : State) : Out :=
  storedReg 0x2D (tmuParam fun d t => { t with s := { t.s with start := coordFloat d } }) a s

/-- fstartT (30_encoding.md R145; 40_register_access.md R175). -/
def execFstartT (a : RegAccess) (s : State) : Out :=
  storedReg 0x2E (tmuParam fun d t => { t with t := { t.t with start := coordFloat d } }) a s

/-- fstartW (30_encoding.md R145; 40_register_access.md R175). -/
def execFstartW (a : RegAccess) (s : State) : Out :=
  storedReg 0x2F (bothParam (fun d f => { f with w := { f.w with start := wFloat d } })
    (fun d t => { t with w := { t.w with start := wFloat d } })) a s

/-- fdRdX (30_encoding.md R145; 40_register_access.md R175). -/
def execFdRdX (a : RegAccess) (s : State) : Out :=
  storedReg 0x30 (fbiParam fun d f => { f with r := { f.r with dx := colorFloat d } }) a s

/-- fdGdX (30_encoding.md R145; 40_register_access.md R175). -/
def execFdGdX (a : RegAccess) (s : State) : Out :=
  storedReg 0x31 (fbiParam fun d f => { f with g := { f.g with dx := colorFloat d } }) a s

/-- fdBdX (30_encoding.md R145; 40_register_access.md R175). -/
def execFdBdX (a : RegAccess) (s : State) : Out :=
  storedReg 0x32 (fbiParam fun d f => { f with b := { f.b with dx := colorFloat d } }) a s

/-- fdZdX (30_encoding.md R145; 40_register_access.md R175). -/
def execFdZdX (a : RegAccess) (s : State) : Out :=
  storedReg 0x33 (fbiParam fun d f => { f with z := { f.z with dx := depthFloat d } }) a s

/-- fdAdX (30_encoding.md R145; 40_register_access.md R175). -/
def execFdAdX (a : RegAccess) (s : State) : Out :=
  storedReg 0x34 (fbiParam fun d f => { f with a := { f.a with dx := colorFloat d } }) a s

/-- fdSdX (30_encoding.md R145; 40_register_access.md R175). -/
def execFdSdX (a : RegAccess) (s : State) : Out :=
  storedReg 0x35 (tmuParam fun d t => { t with s := { t.s with dx := coordFloat d } }) a s

/-- fdTdX (30_encoding.md R145; 40_register_access.md R175). -/
def execFdTdX (a : RegAccess) (s : State) : Out :=
  storedReg 0x36 (tmuParam fun d t => { t with t := { t.t with dx := coordFloat d } }) a s

/-- fdWdX (30_encoding.md R145; 40_register_access.md R175). -/
def execFdWdX (a : RegAccess) (s : State) : Out :=
  storedReg 0x37 (bothParam (fun d f => { f with w := { f.w with dx := wFloat d } })
    (fun d t => { t with w := { t.w with dx := wFloat d } })) a s

/-- fdRdY (30_encoding.md R145; 40_register_access.md R175). -/
def execFdRdY (a : RegAccess) (s : State) : Out :=
  storedReg 0x38 (fbiParam fun d f => { f with r := { f.r with dy := colorFloat d } }) a s

/-- fdGdY (30_encoding.md R145; 40_register_access.md R175). -/
def execFdGdY (a : RegAccess) (s : State) : Out :=
  storedReg 0x39 (fbiParam fun d f => { f with g := { f.g with dy := colorFloat d } }) a s

/-- fdBdY (30_encoding.md R145; 40_register_access.md R175). -/
def execFdBdY (a : RegAccess) (s : State) : Out :=
  storedReg 0x3A (fbiParam fun d f => { f with b := { f.b with dy := colorFloat d } }) a s

/-- fdZdY (30_encoding.md R145; 40_register_access.md R175). -/
def execFdZdY (a : RegAccess) (s : State) : Out :=
  storedReg 0x3B (fbiParam fun d f => { f with z := { f.z with dy := depthFloat d } }) a s

/-- fdAdY (30_encoding.md R145; 40_register_access.md R175). -/
def execFdAdY (a : RegAccess) (s : State) : Out :=
  storedReg 0x3C (fbiParam fun d f => { f with a := { f.a with dy := colorFloat d } }) a s

/-- fdSdY (30_encoding.md R145; 40_register_access.md R175). -/
def execFdSdY (a : RegAccess) (s : State) : Out :=
  storedReg 0x3D (tmuParam fun d t => { t with s := { t.s with dy := coordFloat d } }) a s

/-- fdTdY (30_encoding.md R145; 40_register_access.md R175). -/
def execFdTdY (a : RegAccess) (s : State) : Out :=
  storedReg 0x3E (tmuParam fun d t => { t with t := { t.t with dy := coordFloat d } }) a s

/-- fdWdY (30_encoding.md R145; 40_register_access.md R175). -/
def execFdWdY (a : RegAccess) (s : State) : Out :=
  storedReg 0x3F (bothParam (fun d f => { f with w := { f.w with dy := wFloat d } })
    (fun d t => { t with w := { t.w with dy := wFloat d } })) a s

end Sys2Proof.Machine
end

