-- ==== Sys2Proof/Machine/Render.lean ====
section
/-! DEFINITION. The store-only registers (40_register_access.md R188). -/

namespace Sys2Proof.Machine

/-- fbzColorPath: stored; read by later commands (40_register_access.md R188, R181). -/
def execFbzColorPath (a : RegAccess) (s : State) : Out :=
  storedReg 0x41 storeOnly a s

/-- fogMode: stored; read by later commands (40_register_access.md R188, R181). -/
def execFogMode (a : RegAccess) (s : State) : Out :=
  storedReg 0x42 storeOnly a s

/-- alphaMode: stored; read by later commands (40_register_access.md R188, R181). -/
def execAlphaMode (a : RegAccess) (s : State) : Out :=
  storedReg 0x43 storeOnly a s

/-- fbzMode: stored; read by later commands (40_register_access.md R188, R181). -/
def execFbzMode (a : RegAccess) (s : State) : Out :=
  storedReg 0x44 storeOnly a s

/-- lfbMode: stored; read by later commands (40_register_access.md R188, R181). -/
def execLfbMode (a : RegAccess) (s : State) : Out :=
  storedReg 0x45 storeOnly a s

/-- clipLeftRight: stored; read by later commands (40_register_access.md R188, R181). -/
def execClipLeftRight (a : RegAccess) (s : State) : Out :=
  storedReg 0x46 storeOnly a s

/-- clipLowYHighY: stored; read by later commands (40_register_access.md R188, R181). -/
def execClipLowYHighY (a : RegAccess) (s : State) : Out :=
  storedReg 0x47 storeOnly a s

/-- fogColor: stored; read by later commands (40_register_access.md R188, R181). -/
def execFogColor (a : RegAccess) (s : State) : Out :=
  storedReg 0x4B storeOnly a s

/-- zaColor: stored; read by later commands (40_register_access.md R188, R181). -/
def execZaColor (a : RegAccess) (s : State) : Out :=
  storedReg 0x4C storeOnly a s

/-- chromaKey: stored; read by later commands (40_register_access.md R188, R181). -/
def execChromaKey (a : RegAccess) (s : State) : Out :=
  storedReg 0x4D storeOnly a s

/-- chromaRange: stored; read by later commands (40_register_access.md R188, R181). -/
def execChromaRange (a : RegAccess) (s : State) : Out :=
  storedReg 0x4E storeOnly a s

/-- stipple: stored; read by later commands (40_register_access.md R188, R181). -/
def execStipple (a : RegAccess) (s : State) : Out :=
  storedReg 0x50 storeOnly a s

/-- color0: stored; read by later commands (40_register_access.md R188, R181). -/
def execColor0 (a : RegAccess) (s : State) : Out :=
  storedReg 0x51 storeOnly a s

/-- color1: stored; read by later commands (40_register_access.md R188, R181). -/
def execColor1 (a : RegAccess) (s : State) : Out :=
  storedReg 0x52 storeOnly a s

/-- intrCtrl: stored, no effect (40_register_access.md R188; 92_eei_decisions.md D20). -/
def execIntrCtrl (a : RegAccess) (s : State) : Out :=
  storedReg 0x01 storeOnly a s

/-- userIntrCMD: stored, no effect (40_register_access.md R188; 92_eei_decisions.md D20). -/
def execUserIntrCMD (a : RegAccess) (s : State) : Out :=
  storedReg 0x4F storeOnly a s

/-- clutData: stored, no effect (40_register_access.md R188; 92_eei_decisions.md D20). -/
def execClutData (a : RegAccess) (s : State) : Out :=
  storedReg 0x8A storeOnly a s

/-- dacData: stored, no effect (40_register_access.md R188; 92_eei_decisions.md D20). -/
def execDacData (a : RegAccess) (s : State) : Out :=
  storedReg 0x8B storeOnly a s

/-- maxRgbDelta: stored, no effect (40_register_access.md R188; 92_eei_decisions.md D20). -/
def execMaxRgbDelta (a : RegAccess) (s : State) : Out :=
  storedReg 0x8C storeOnly a s

/-- borderColor: stored, no effect (40_register_access.md R188; 92_eei_decisions.md D20). -/
def execBorderColor (a : RegAccess) (s : State) : Out :=
  storedReg 0x8F storeOnly a s

/-- sSetupMode: stored; read by sDrawTriCMD (40_register_access.md R188; 10_state.md R51). -/
def execSSetupMode (a : RegAccess) (s : State) : Out :=
  storedReg 0x98 storeOnly a s

end Sys2Proof.Machine
end

