-- ==== Sys2Proof/Machine/SetupRegs.lean ====
section
/-! DEFINITION. The V2 setup-vertex data registers (40_register_access.md R189). -/

namespace Sys2Proof.Machine

/-- The sARGB write: the packed colour also sets sAlpha, sRed, sGreen and sBlue (30_encoding.md R146; log entry 18). -/
def unpackArgb (_ : ChipSet) (data : Word) (s : State) : Out :=
  .next ((((s.setFbiReg 0x9F (f32OfByte (field data 24 8))).setFbiReg 0x9C (f32OfByte (field data 16 8))).setFbiReg 0x9D
    (f32OfByte (field data 8 8))).setFbiReg 0x9E (f32OfByte (field data 0 8)))

/-- sVx: stored unconverted until a vertex is pushed (40_register_access.md R189; 30_encoding.md R146). -/
def execSVx (a : RegAccess) (s : State) : Out :=
  storedReg 0x99 storeOnly a s

/-- sVy: stored unconverted until a vertex is pushed (40_register_access.md R189; 30_encoding.md R146). -/
def execSVy (a : RegAccess) (s : State) : Out :=
  storedReg 0x9A storeOnly a s

/-- sRed: stored unconverted until a vertex is pushed (40_register_access.md R189; 30_encoding.md R146). -/
def execSRed (a : RegAccess) (s : State) : Out :=
  storedReg 0x9C storeOnly a s

/-- sGreen: stored unconverted until a vertex is pushed (40_register_access.md R189; 30_encoding.md R146). -/
def execSGreen (a : RegAccess) (s : State) : Out :=
  storedReg 0x9D storeOnly a s

/-- sBlue: stored unconverted until a vertex is pushed (40_register_access.md R189; 30_encoding.md R146). -/
def execSBlue (a : RegAccess) (s : State) : Out :=
  storedReg 0x9E storeOnly a s

/-- sAlpha: stored unconverted until a vertex is pushed (40_register_access.md R189; 30_encoding.md R146). -/
def execSAlpha (a : RegAccess) (s : State) : Out :=
  storedReg 0x9F storeOnly a s

/-- sVz: stored unconverted until a vertex is pushed (40_register_access.md R189; 30_encoding.md R146). -/
def execSVz (a : RegAccess) (s : State) : Out :=
  storedReg 0xA0 storeOnly a s

/-- sWb: stored unconverted until a vertex is pushed (40_register_access.md R189; 30_encoding.md R146). -/
def execSWb (a : RegAccess) (s : State) : Out :=
  storedReg 0xA1 storeOnly a s

/-- sWtmu0: stored unconverted until a vertex is pushed (40_register_access.md R189; 30_encoding.md R146). -/
def execSWtmu0 (a : RegAccess) (s : State) : Out :=
  storedReg 0xA2 storeOnly a s

/-- sS_W0: stored unconverted until a vertex is pushed (40_register_access.md R189; 30_encoding.md R146). -/
def execSS_W0 (a : RegAccess) (s : State) : Out :=
  storedReg 0xA3 storeOnly a s

/-- sT_W0: stored unconverted until a vertex is pushed (40_register_access.md R189; 30_encoding.md R146). -/
def execST_W0 (a : RegAccess) (s : State) : Out :=
  storedReg 0xA4 storeOnly a s

/-- sWtmu1: stored unconverted until a vertex is pushed (40_register_access.md R189; 30_encoding.md R146). -/
def execSWtmu1 (a : RegAccess) (s : State) : Out :=
  storedReg 0xA5 storeOnly a s

/-- sS_Wtmu1: stored unconverted until a vertex is pushed (40_register_access.md R189; 30_encoding.md R146). -/
def execSS_Wtmu1 (a : RegAccess) (s : State) : Out :=
  storedReg 0xA6 storeOnly a s

/-- sT_Wtmu1: stored unconverted until a vertex is pushed (40_register_access.md R189; 30_encoding.md R146). -/
def execST_Wtmu1 (a : RegAccess) (s : State) : Out :=
  storedReg 0xA7 storeOnly a s

/-- sARGB (40_register_access.md R189; 30_encoding.md R146). -/
def execSARGB (a : RegAccess) (s : State) : Out :=
  storedReg 0x9B unpackArgb a s

end Sys2Proof.Machine
end

