-- ==== Sys2Proof/Machine/Status.lean ====
section
/-! DEFINITION. The registers computed on read (40_register_access.md R183 to R186). -/

namespace Sys2Proof.Machine

/-- The value of status (40_register_access.md R183): an idle engine, the vblank state and the front buffer. -/
def statusValue (s : State) : Word :=
  0x0FFFF03F#32 ||| (if s.display.vblank then 0x40#32 else 0#32) ||| (BitVec.ofNat 32 s.swap.front.val <<< 10)

/-- The value of vRetrace (40_register_access.md R185). -/
def vRetraceValue (s : State) : Word := s.display.vpos &&& 0x1FFF#32

/-- The value of hvRetrace (40_register_access.md R185). -/
def hvRetraceValue (s : State) : Word := ((s.display.hpos &&& 0x7FF#32) <<< 16) ||| (s.display.vpos &&& 0x1FFF#32)

/-- status (40_register_access.md R183). -/
def execStatus (a : RegAccess) (s : State) : Out :=
  computedReg 0x00 statusValue a s

/-- vRetrace (40_register_access.md R185). -/
def execVRetrace (a : RegAccess) (s : State) : Out :=
  computedReg 0x81 vRetraceValue a s

/-- hvRetrace (40_register_access.md R185). -/
def execHvRetrace (a : RegAccess) (s : State) : Out :=
  computedReg 0x90 hvRetraceValue a s

/-- fbiSwapHistory (40_register_access.md R186). -/
def execFbiSwapHistory (a : RegAccess) (s : State) : Out :=
  computedReg 0x96 (fun s => s.swap.history) a s

/-- fbiPixelsIn (40_register_access.md R184). -/
def execFbiPixelsIn (a : RegAccess) (s : State) : Out :=
  computedReg 0x53 (fun s => counterValue s.stats.pixelsIn) a s

/-- fbiChromaFail (40_register_access.md R184). -/
def execFbiChromaFail (a : RegAccess) (s : State) : Out :=
  computedReg 0x54 (fun s => counterValue s.stats.chromaFail) a s

/-- fbiZfuncFail (40_register_access.md R184). -/
def execFbiZfuncFail (a : RegAccess) (s : State) : Out :=
  computedReg 0x55 (fun s => counterValue s.stats.zfuncFail) a s

/-- fbiAfuncFail (40_register_access.md R184). -/
def execFbiAfuncFail (a : RegAccess) (s : State) : Out :=
  computedReg 0x56 (fun s => counterValue s.stats.afuncFail) a s

/-- fbiPixelsOut (40_register_access.md R184). -/
def execFbiPixelsOut (a : RegAccess) (s : State) : Out :=
  computedReg 0x57 (fun s => counterValue s.stats.pixelsOut) a s

/-- fbiTrianglesOut (40_register_access.md R184). -/
def execFbiTrianglesOut (a : RegAccess) (s : State) : Out :=
  computedReg 0x97 (fun s => counterValue s.stats.trianglesOut) a s

end Sys2Proof.Machine
end

