-- ==== Sys2Proof/Machine/TexSpace.lean ====
section
/-! DEFINITION. Texture-space writes and reads (42_texture.md R290; 40_register_access.md R182). -/

namespace Sys2Proof.Machine

/-- tex.wr (42_texture.md R290). -/
def execTexWr (unit : BitVec 2) (lod : BitVec 4) (row : BitVec 8) (sword : BitVec 7) (data : Word) (s : State) : Out :=
  textureWrite unit lod row sword data s

/-- The word offset `W` of a texture address (30_encoding.md R136). -/
def texWordOffset (unit : BitVec 2) (lod : BitVec 4) (row : BitVec 8) (sword : BitVec 7) : BitVec 22 :=
  1#1 ++ unit ++ lod ++ row ++ sword

/-- tex.rd: not supported; all ones and a log event (40_register_access.md R182). -/
def execTexRd (unit : BitVec 2) (lod : BitVec 4) (row : BitVec 8) (sword : BitVec 7) (s : State) : Out :=
  rejectRead (.texReadUnsupported (texWordOffset unit lod row sword)) s

end Sys2Proof.Machine
end

