-- ==== Sys2Proof/Machine/TmuRegs.lean ====
section
/-! DEFINITION. The TMU, NCC and palette registers (40_register_access.md R178, R179). -/

namespace Sys2Proof.Machine

/-- Mark a TMU dirty (40_register_access.md R178). -/
def markDirty (t : Tmu) : Tmu := { t with dirty := true }

/-- A TMU register write: each selected TMU becomes dirty (40_register_access.md R178). -/
def tmuRegWrite (chips : ChipSet) (_ : Word) (s : State) : Out := .next (updateTmus chips markDirty s)

/-- A triple of s9 coefficients (10_state.md R56). -/
def nccTriple (data : Word) : NccTriple := ⟨field data 18 9, field data 9 9, field data 0 9⟩

/-- Coefficient word `k` of an NCC table (10_state.md R56): four `Y`, an `I` or a `Q`; the table becomes dirty. -/
def nccCoefficient (k : Nat) (data : Word) (n : NccTable) : NccTable :=
  if k < 4 then
    let y := writeTable 0 (writeTable 0 (writeTable 0 (writeTable 0 n.y (4 * k) (field data 0 8))
      (4 * k + 1) (field data 8 8)) (4 * k + 2) (field data 16 8)) (4 * k + 3) (field data 24 8)
    { n with y := y, dirty := true }
  else if k < 8 then { n with i := writeTable ⟨0, 0, 0⟩ n.i (k - 4) (nccTriple data), dirty := true }
  else { n with q := writeTable ⟨0, 0, 0⟩ n.q (k - 8) (nccTriple data), dirty := true }

/-- The palette form of a table-0 write (10_state.md R56; 40_register_access.md R179). -/
def isPaletteWrite (table : Bool) (k : Nat) (data : Word) : Bool := !table && decide (4 ≤ k) && bit data 31

/-- The palette entry a palette write names. -/
def paletteIndex (k : Nat) (data : Word) : Nat := fieldNat data 24 7 * 2 + k % 2

/-- A palette write to one TMU (40_register_access.md R179): the entry is set and no NCC table is marked. -/
def paletteWriteTmu (k : Nat) (data : Word) (t : Tmu) : Tmu :=
  { t with palette := writeTable 0 t.palette (paletteIndex k data) (field data 0 24) }

/-- A write of word `k` of an NCC table to one TMU (40_register_access.md R179; 20_memory.md R117): both forms mark the TMU
dirty (42_texture.md R272 differs for the palette: log entry 22). -/
def nccWriteTmu (table : Bool) (k : Nat) (data : Word) (t : Tmu) : Tmu :=
  markDirty (if isPaletteWrite table k data then paletteWriteTmu k data t
    else t.setNcc table (nccCoefficient k data (t.ncc table)))

/-- A write of word `k` of an NCC table (40_register_access.md R179). -/
def nccWrite (table : Bool) (k : Nat) (chips : ChipSet) (data : Word) (s : State) : Out :=
  .next (updateTmus chips (nccWriteTmu table k data) s)

/-- textureMode (40_register_access.md R178). -/
def execTextureMode (a : RegAccess) (s : State) : Out :=
  storedReg 0xC0 tmuRegWrite a s

/-- tLOD (40_register_access.md R178). -/
def execTLOD (a : RegAccess) (s : State) : Out :=
  storedReg 0xC1 tmuRegWrite a s

/-- tDetail (40_register_access.md R178). -/
def execTDetail (a : RegAccess) (s : State) : Out :=
  storedReg 0xC2 tmuRegWrite a s

/-- texBaseAddr (40_register_access.md R178). -/
def execTexBaseAddr (a : RegAccess) (s : State) : Out :=
  storedReg 0xC3 tmuRegWrite a s

/-- texBaseAddr_1 (40_register_access.md R178). -/
def execTexBaseAddr_1 (a : RegAccess) (s : State) : Out :=
  storedReg 0xC4 tmuRegWrite a s

/-- texBaseAddr_2 (40_register_access.md R178). -/
def execTexBaseAddr_2 (a : RegAccess) (s : State) : Out :=
  storedReg 0xC5 tmuRegWrite a s

/-- texBaseAddr_3_8 (40_register_access.md R178). -/
def execTexBaseAddr_3_8 (a : RegAccess) (s : State) : Out :=
  storedReg 0xC6 tmuRegWrite a s

/-- trexInit0 (40_register_access.md R178). -/
def execTrexInit0 (a : RegAccess) (s : State) : Out :=
  storedReg 0xC7 tmuRegWrite a s

/-- trexInit1 (40_register_access.md R178). -/
def execTrexInit1 (a : RegAccess) (s : State) : Out :=
  storedReg 0xC8 tmuRegWrite a s

/-- nccTable0[0] (40_register_access.md R179). -/
def execNccTable0_0 (a : RegAccess) (s : State) : Out :=
  storedReg 0xC9 (nccWrite false 0) a s

/-- nccTable0[1] (40_register_access.md R179). -/
def execNccTable0_1 (a : RegAccess) (s : State) : Out :=
  storedReg 0xCA (nccWrite false 1) a s

/-- nccTable0[2] (40_register_access.md R179). -/
def execNccTable0_2 (a : RegAccess) (s : State) : Out :=
  storedReg 0xCB (nccWrite false 2) a s

/-- nccTable0[3] (40_register_access.md R179). -/
def execNccTable0_3 (a : RegAccess) (s : State) : Out :=
  storedReg 0xCC (nccWrite false 3) a s

/-- nccTable0[4] (40_register_access.md R179). -/
def execNccTable0_4 (a : RegAccess) (s : State) : Out :=
  storedReg 0xCD (nccWrite false 4) a s

/-- nccTable0[5] (40_register_access.md R179). -/
def execNccTable0_5 (a : RegAccess) (s : State) : Out :=
  storedReg 0xCE (nccWrite false 5) a s

/-- nccTable0[6] (40_register_access.md R179). -/
def execNccTable0_6 (a : RegAccess) (s : State) : Out :=
  storedReg 0xCF (nccWrite false 6) a s

/-- nccTable0[7] (40_register_access.md R179). -/
def execNccTable0_7 (a : RegAccess) (s : State) : Out :=
  storedReg 0xD0 (nccWrite false 7) a s

/-- nccTable0[8] (40_register_access.md R179). -/
def execNccTable0_8 (a : RegAccess) (s : State) : Out :=
  storedReg 0xD1 (nccWrite false 8) a s

/-- nccTable0[9] (40_register_access.md R179). -/
def execNccTable0_9 (a : RegAccess) (s : State) : Out :=
  storedReg 0xD2 (nccWrite false 9) a s

/-- nccTable0[10] (40_register_access.md R179). -/
def execNccTable0_10 (a : RegAccess) (s : State) : Out :=
  storedReg 0xD3 (nccWrite false 10) a s

/-- nccTable0[11] (40_register_access.md R179). -/
def execNccTable0_11 (a : RegAccess) (s : State) : Out :=
  storedReg 0xD4 (nccWrite false 11) a s

/-- nccTable1[0] (40_register_access.md R179). -/
def execNccTable1_0 (a : RegAccess) (s : State) : Out :=
  storedReg 0xD5 (nccWrite true 0) a s

/-- nccTable1[1] (40_register_access.md R179). -/
def execNccTable1_1 (a : RegAccess) (s : State) : Out :=
  storedReg 0xD6 (nccWrite true 1) a s

/-- nccTable1[2] (40_register_access.md R179). -/
def execNccTable1_2 (a : RegAccess) (s : State) : Out :=
  storedReg 0xD7 (nccWrite true 2) a s

/-- nccTable1[3] (40_register_access.md R179). -/
def execNccTable1_3 (a : RegAccess) (s : State) : Out :=
  storedReg 0xD8 (nccWrite true 3) a s

/-- nccTable1[4] (40_register_access.md R179). -/
def execNccTable1_4 (a : RegAccess) (s : State) : Out :=
  storedReg 0xD9 (nccWrite true 4) a s

/-- nccTable1[5] (40_register_access.md R179). -/
def execNccTable1_5 (a : RegAccess) (s : State) : Out :=
  storedReg 0xDA (nccWrite true 5) a s

/-- nccTable1[6] (40_register_access.md R179). -/
def execNccTable1_6 (a : RegAccess) (s : State) : Out :=
  storedReg 0xDB (nccWrite true 6) a s

/-- nccTable1[7] (40_register_access.md R179). -/
def execNccTable1_7 (a : RegAccess) (s : State) : Out :=
  storedReg 0xDC (nccWrite true 7) a s

/-- nccTable1[8] (40_register_access.md R179). -/
def execNccTable1_8 (a : RegAccess) (s : State) : Out :=
  storedReg 0xDD (nccWrite true 8) a s

/-- nccTable1[9] (40_register_access.md R179). -/
def execNccTable1_9 (a : RegAccess) (s : State) : Out :=
  storedReg 0xDE (nccWrite true 9) a s

/-- nccTable1[10] (40_register_access.md R179). -/
def execNccTable1_10 (a : RegAccess) (s : State) : Out :=
  storedReg 0xDF (nccWrite true 10) a s

/-- nccTable1[11] (40_register_access.md R179). -/
def execNccTable1_11 (a : RegAccess) (s : State) : Out :=
  storedReg 0xE0 (nccWrite true 11) a s

end Sys2Proof.Machine
end

