-- ==== Sys2Proof/Machine/Float32.lean ====
section
/-! DEFINITION. IEEE binary32 arithmetic, round to nearest even per operation (41_triangle.md R222; 92_eei_decisions.md D17). -/

namespace Sys2Proof.Machine

/-- A binary32 datum: `±m * 2^e`, an infinity, or not a number. -/
inductive Float32Val where
  | finite (neg : Bool) (m : Nat) (e : Int)
  | inf (neg : Bool)
  | nan
deriving DecidableEq, Repr

/-- The datum of a binary32 word. -/
def unpack32 (v : Word) : Float32Val :=
  let neg := bit v 31
  let ex := fieldNat v 23 8
  let frac := fieldNat v 0 23
  if ex = 255 then (if frac = 0 then .inf neg else .nan)
  else if ex = 0 then .finite neg frac (-149)
  else .finite neg (frac + 2 ^ 23) ((ex : Int) - 150)

/-- A word with a sign bit and a magnitude. -/
def signed32 (neg : Bool) (magnitude : Nat) : Word :=
  BitVec.ofNat 32 (magnitude + if neg then 2 ^ 31 else 0)

/-- The quiet NaN. Which NaN an operation gives cannot be observed: a setup result is only converted or compared with 0
(log entry 33). -/
def nan32 : Word := 0x7FC00000#32

/-- An infinity. -/
def inf32 (neg : Bool) : Word := signed32 neg 0x7F800000

/-- Nearest binary32 of `±m * 2^e`, ties to even; with `sticky` the value lies strictly between `m` and `m + 1`. When
`sticky` holds, `m` has more than 24 bits, so the rounding position is at or above bit 0 of `m`. -/
def round32 (neg : Bool) (m : Nat) (e : Int) (sticky : Bool) : Word :=
  if m = 0 then signed32 neg 0
  else
    let q : Int := max ((m.log2 : Int) + e - 23) (-149)
    let mant : Nat :=
      if q ≤ e then m <<< (e - q).toNat
      else
        let sh := (q - e).toNat
        let kept := m >>> sh
        let rem := m % 2 ^ sh
        let half := 2 ^ (sh - 1)
        let up := decide (half < rem) || (decide (rem = half) && (sticky || decide (kept % 2 = 1)))
        if up then kept + 1 else kept
    let packed : Nat := (q + 149).toNat * 2 ^ 23 + mant
    if 0x7F800000 ≤ packed then inf32 neg else signed32 neg packed

/-- The exact integer `±m * 2^(e - e0)`, for `e0 ≤ e`. -/
def alignTo (neg : Bool) (m : Nat) (e e0 : Int) : Int :=
  let v : Int := ((m <<< (e - e0).toNat : Nat) : Int)
  if neg then -v else v

/-- Addition. -/
def add32 (x y : Word) : Word :=
  match unpack32 x, unpack32 y with
  | .nan, _ => nan32
  | _, .nan => nan32
  | .inf a, .inf b => if a = b then inf32 a else nan32
  | .inf a, .finite _ _ _ => inf32 a
  | .finite _ _ _, .inf b => inf32 b
  | .finite a ma ea, .finite b mb eb =>
    let e0 := min ea eb
    let sum := alignTo a ma ea e0 + alignTo b mb eb e0
    if sum = 0 then signed32 (a && b) 0 else round32 (decide (sum < 0)) sum.natAbs e0 false

/-- Negation. -/
def neg32 (x : Word) : Word := x ^^^ 0x80000000#32

/-- Subtraction. -/
def sub32 (x y : Word) : Word := add32 x (neg32 y)

/-- Multiplication. -/
def mul32 (x y : Word) : Word :=
  match unpack32 x, unpack32 y with
  | .nan, _ => nan32
  | _, .nan => nan32
  | .inf a, .inf b => inf32 (a != b)
  | .inf a, .finite b m _ => if m = 0 then nan32 else inf32 (a != b)
  | .finite a m _, .inf b => if m = 0 then nan32 else inf32 (a != b)
  | .finite a ma ea, .finite b mb eb => round32 (a != b) (ma * mb) (ea + eb) false

/-- Division. The quotient of two nonzero finite values is computed with 64 extra bits and a sticky bit. -/
def div32 (x y : Word) : Word :=
  match unpack32 x, unpack32 y with
  | .nan, _ => nan32
  | _, .nan => nan32
  | .inf _, .inf _ => nan32
  | .inf a, .finite b _ _ => inf32 (a != b)
  | .finite a _ _, .inf b => signed32 (a != b) 0
  | .finite a ma ea, .finite b mb eb =>
    if mb = 0 then (if ma = 0 then nan32 else inf32 (a != b))
    else if ma = 0 then signed32 (a != b) 0
    else
      let scaled := ma <<< 64
      round32 (a != b) (scaled / mb) (ea - eb - 64) (decide (scaled % mb ≠ 0))

/-- The comparison `x < 0` (41_triangle.md R223): false for a zero of either sign and for a NaN. -/
def isNegative32 (x : Word) : Bool :=
  match unpack32 x with
  | .nan => false
  | .inf neg => neg
  | .finite neg m _ => neg && decide (m ≠ 0)

/-- `trunc(f)`: toward zero (00_scope.md R11); `none` for an infinity or a NaN. -/
def trunc32 (x : Word) : Option Int :=
  match unpack32 x with
  | .nan => none
  | .inf _ => none
  | .finite neg m e =>
    let a : Nat := if 0 ≤ e then m <<< e.toNat else m >>> (-e).toNat
    some (if neg then -(a : Int) else (a : Int))

/-- The truncation of `x` where it lies in the signed range of `w` bits; `none` where the conversion has no value
(41_triangle.md R222; 92_eei_decisions.md D17). -/
def convert32 (w : Nat) (x : Word) : Option (BitVec w) :=
  match trunc32 x with
  | none => none
  | some v =>
    if -((2 ^ (w - 1) : Nat) : Int) ≤ v ∧ v < ((2 ^ (w - 1) : Nat) : Int) then some (BitVec.ofInt w v) else none

end Sys2Proof.Machine
end

