-- ==== Sys2Proof/Machine/Raster.lean ====
section
/-! DEFINITION. Triangle rasterization (41_triangle.md R212, R231, R240 to R242; 43_pixel.md R300) and the rasterizer cache
(60_exceptions.md R403, R404). -/

namespace Sys2Proof.Machine

/-! ### Subpixel adjustment (41_triangle.md R231) -/

/-- A colour's start value, moved: products and sum wrap at 32 bits. -/
def adjustColor (dx dy : Int) (g : Grad32) : Grad32 :=
  { g with start := g.start + (BitVec.ofInt 32 dy * g.dy + BitVec.ofInt 32 dx * g.dx).sshiftRight 4 }

/-- The depth start value, moved: two exact products, each shifted. -/
def adjustDepth (dx dy : Int) (g : Grad32) : Grad32 :=
  { g with start := BitVec.ofInt 32 (g.start.toInt + sar (dy * g.dy.toInt) 4 + sar (dx * g.dx.toInt) 4) }

/-- A 64-bit start value, moved: the products and their sum are exact, the result wraps at 64 bits (log entry 39). -/
def adjustWide (dx dy : Int) (g : Grad64) : Grad64 :=
  { g with start := BitVec.ofInt 64 (g.start.toInt + sar (dy * g.dy.toInt + dx * g.dx.toInt) 4) }

/-- `8 - (v & 15)`, in sixteenths of a pixel. -/
def subpixelShift (v : Half) : Int := 8 - (v.toNat % 16 : Nat)

/-- The FBI iterators, moved to the centre of vertex A's pixel. -/
def adjustFbi (f : FbiIter) : FbiIter :=
  let dx := subpixelShift f.vax
  let dy := subpixelShift f.vay
  { f with
    r := adjustColor dx dy f.r
    g := adjustColor dx dy f.g
    b := adjustColor dx dy f.b
    a := adjustColor dx dy f.a
    z := adjustDepth dx dy f.z
    w := adjustWide dx dy f.w }

/-- A TMU's iterators, moved likewise. -/
def adjustTmu (dx dy : Int) (t : Tmu) : Tmu :=
  { t with s := adjustWide dx dy t.s, t := adjustWide dx dy t.t, w := adjustWide dx dy t.w }

/-- `SubpixelAdjust(ntmu)` (41_triangle.md R231). -/
def subpixelAdjust (ntmu : Nat) (s : State) : State :=
  let dx := subpixelShift s.fbi.vax
  let dy := subpixelShift s.fbi.vay
  foldState (fun u s => s.setTmu u (adjustTmu dx dy (s.tmu u))) (activeTmus ntmu) { s with fbi := adjustFbi s.fbi }

/-! ### The cache key (60_exceptions.md R403; log entry 8) -/

/-- `N_am`: alphaMode without alpha_ref, and without what a disabled test or blend ignores. -/
def normAlphaMode (am : Word) : Word :=
  let a := am &&& ~~~0xFF000000#32
  let a := if alphaTestEnable am then a else a &&& ~~~0x0000000E#32
  if alphaBlendEnable am then a else a &&& ~~~0x00FFFF00#32

/-- The class that replaces a texel format in the key. -/
def formatClass (f : Nat) : Word := if f < 8 then 0 else if f = 10 ∨ f = 11 ∨ f = 12 then 10 else 8

/-- `NT(t)`. -/
def normTextureMode (tm : Word) : Word :=
  (tm &&& ~~~0x80000F20#32) ||| formatClass (tmFormat tm) <<< 8

/-- The normalized render state of a triangle with `ntmu` active units. -/
def renderKey (s : State) (ntmu : Nat) : RenderKey where
  cp := s.fbzColorPath &&& ~~~0x0C000000#32
  am := normAlphaMode s.alphaMode
  fm := if fogEnable s.fogMode then s.fogMode else 0
  fbz := s.fbzMode &&& ~~~0x0000C000#32
  t0 := if 0 < ntmu then normTextureMode (s.textureMode .t0) else allOnes
  t1 := if 1 < ntmu then normTextureMode (s.textureMode .t1) else allOnes

/-- `CacheLookup(key)` (60_exceptions.md R404): the fatal error sets `fatal` in the state it leaves (R402; 10_state.md
R72). -/
def cacheLookup (key : RenderKey) (s : State) : Out :=
  if key ∈ s.cacheStates then .next s
  else if Config.cacheCapacity - s.cfg.cacheReserved ≤ s.cacheStates.length then .fault (.cacheFull { s with fatal := true })
  else .next { s with cacheStates := s.cacheStates ++ [key] }

/-! ### Parameter evaluation (41_triangle.md R242) -/

/-- A 32-bit iterator at a pixel, wrapping. -/
def evalGrad32 (g : Grad32) (dx dy : Int) : Word := g.start + BitVec.ofInt 32 dy * g.dy + BitVec.ofInt 32 dx * g.dx

/-- A 64-bit iterator at a pixel, wrapping. -/
def evalGrad64 (g : Grad64) (dx dy : Int) : Wide := g.start + BitVec.ofInt 64 dy * g.dy + BitVec.ofInt 64 dx * g.dx

/-- The S, T and W iterators of a TMU at a pixel. -/
def evalTex (t : Tmu) (dx dy : Int) : TexCoord := ⟨evalGrad64 t.s dx dy, evalGrad64 t.t dx dy, evalGrad64 t.w dx dy⟩

/-- `ClampedARGB()` at a pixel (43_pixel.md R305). -/
def clampedArgb (s : State) (dx dy : Int) : Argb :=
  let c := s.iterClamp
  let f := s.fbi
  ⟨clamp8 c (evalGrad32 f.a dx dy), clamp8 c (evalGrad32 f.r dx dy), clamp8 c (evalGrad32 f.g dx dy),
    clamp8 c (evalGrad32 f.b dx dy)⟩

/-- What the pixel pipeline sees of pixel `(x, y)` of a triangle: the iterators relative to the integer pixel of vertex A. -/
def trianglePixel (s : State) (base : Nat) (ntmu : Nat) (x y scry : Int) : PixelIn :=
  let f := s.fbi
  let dx := x - sar f.vax.toInt 4
  let dy := y - sar f.vay.toInt 4
  { base := base
    x := x
    y := y
    scry := scry
    iter := clampedArgb s dx dy
    z := evalGrad32 f.z dx dy
    w := evalGrad64 f.w dx dy
    tex := ⟨ntmu, evalTex s.tmu0 dx dy, evalTex s.tmu1 dx dy⟩
    auxWrite := true
    bypass := false }

/-! ### Scanlines (43_pixel.md R300) -/

/-- The pixels of a span, left to right. -/
def drawSpan (base ntmu : Nat) (y scry xs xe : Int) (s : State) : Out :=
  foldOut (fun x s => pixel (trianglePixel s base ntmu x y scry) s) (intRange xs xe) s

/-- The row `scry` is outside the clip rectangle. -/
def rowClipped (s : State) (scry : Int) : Bool := decide (scry < s.clipLowY) || decide (s.clipHighY ≤ scry)

/-- `Scanline(dst, y, xs, xe, ntmu)` (43_pixel.md R300), for `xs ≤ xe`. -/
def scanline (base ntmu : Nat) (y xs xe : Int) (s : State) : Out :=
  let scry := screenY s y
  if ¬ fbzClipping s.fbzMode then drawSpan base ntmu y scry xs xe s
  else if rowClipped s scry then
    .next (addClipFail (xe - xs).toNat (addPixelsIn (xe - xs).toNat s))
  else
    let l := s.clipLeft
    let r := s.clipRight
    let xs' := if xs < l then min l xe else xs
    let xe' := if r < xe then max r xs' else xe
    drawSpan base ntmu y scry xs' xe' (addPixelsIn ((xs' - xs) + (xe - xe')).toNat s)

/-! ### Coverage (41_triangle.md R241) -/

/-- A vertex in sixteenths of a pixel. -/
structure Vertex where
  x : Int
  y : Int
deriving DecidableEq, Repr

/-- Insert a vertex before the first one with a larger Y. -/
def insertByY (v : Vertex) : List Vertex → List Vertex
  | [] => [v]
  | w :: rest => if v.y < w.y then v :: w :: rest else w :: insertByY v rest

/-- A, B, C sorted by Y ascending, ties in the order A, B, C. -/
def sortedVertices (f : FbiIter) : List Vertex :=
  insertByY ⟨f.vcx.toInt, f.vcy.toInt⟩ (insertByY ⟨f.vbx.toInt, f.vby.toInt⟩ [⟨f.vax.toInt, f.vay.toInt⟩])

/-- `rnd(t)` of a coordinate in sixteenths: `floor(t/16 + 1/2)`. -/
def roundSixteenth (t : Int) : Int := (t + 8) / 16

/-- `rnd` of the X, at the centre of row `y`, of the line through `p` and `q` with `p.y < q.y`: with all coordinates in
sixteenths, `floor(x/16 + 1/2)` for `x = p.x + (16*y + 8 - p.y) * (q.x - p.x) / (q.y - p.y)`, exactly. -/
def edgeX (p q : Vertex) (y : Int) : Int :=
  let d := q.y - p.y
  (p.x * d + (16 * y + 8 - p.y) * (q.x - p.x) + 8 * d) / (16 * d)

/-- The X end of the span of row `y` on the short edge (41_triangle.md R241). -/
def shortEdgeX (v1 v2 v3 : Vertex) (y : Int) : Int :=
  if (16 * y + 8 < v2.y ∧ v2.y ≠ v1.y) ∨ v3.y = v2.y then edgeX v1 v2 y else edgeX v2 v3 y

/-- The span `[a, b)` of a scanline (41_triangle.md R241). -/
structure Span where
  y : Int
  xs : Int
  xe : Int
deriving DecidableEq, Repr

/-- The span of row `y` for vertices sorted by Y. -/
def spanOf (v1 v2 v3 : Vertex) (y : Int) : Span :=
  let a := edgeX v1 v3 y
  let b := shortEdgeX v1 v2 v3 y
  ⟨y, clampInt (min a b) (-4096) 4096, clampInt (max a b) (-4096) 4096⟩

/-- The scanlines of the triangle, top to bottom, those outside [-4096, 4096) skipped (41_triangle.md R241). -/
def coverage (f : FbiIter) : List Span :=
  match sortedVertices f with
  | [v1, v2, v3] =>
    if v1.y = v3.y then []
    else (intRange (max (roundSixteenth v1.y) (-4096)) (min (roundSixteenth v3.y) 4096)).map (spanOf v1 v2 v3)
  | _ => []

/-- `Rasterize(dst, ntmu)` (41_triangle.md R240). -/
def rasterize (base ntmu : Nat) (s : State) : Out :=
  foldOut (fun sp s => scanline base ntmu sp.y sp.xs sp.xe s) (coverage s.fbi) s

/-! ### The triangle procedure (41_triangle.md R212) -/

/-- The steps of `Triangle()` up to the cache lookup: subpixel adjustment and preparation of the active units. -/
def prepareTriangle (ntmu : Nat) (s : State) : State :=
  let s := if cpSubpixelAdjust s.fbzColorPath then subpixelAdjust ntmu s else s
  foldState prepareTmu (activeTmus ntmu) s

/-- `Triangle()` (41_triangle.md R212); a reserved draw buffer or a NONE surface draws nothing (43_pixel.md R301). -/
def triangle (s : State) : Out :=
  match s.drawOffset with
  | none => .next s
  | some base =>
    let ntmu := s.ntmu
    let s := prepareTriangle ntmu s
    andThen (cacheLookup (renderKey s ntmu) s) fun s => rasterize base ntmu (addTriangle s)

end Sys2Proof.Machine
end

