-- ==== Sys2Proof/Machine/Setup.lean ====
section
/-! DEFINITION. The V2 setup submission (41_triangle.md R220 to R223). -/

namespace Sys2Proof.Machine

/-- The vertex record of the current setup registers (30_encoding.md R146). -/
def State.currentVertex (s : State) : SetupVertex where
  x := s.fbiReg 0x99
  y := s.fbiReg 0x9A
  z := s.fbiReg 0xA0
  wb := s.fbiReg 0xA1
  w0 := s.fbiReg 0xA2
  s0 := s.fbiReg 0xA3
  t0 := s.fbiReg 0xA4
  w1 := s.fbiReg 0xA5
  s1 := s.fbiReg 0xA6
  t1 := s.fbiReg 0xA7
  a := s.fbiReg 0x9F
  r := s.fbiReg 0x9C
  g := s.fbiReg 0x9D
  b := s.fbiReg 0x9E

/-! ### Conversions with unconstrained draws (41_triangle.md R222; 92_eei_decisions.md D17) -/

/-- Binary32 of 16.0, the scale of a vertex position. -/
def f32Sixteen : Word := 0x41800000#32

/-- Binary32 of 4096.0, the scale of colours and depth. -/
def f32Scale12 : Word := 0x45800000#32

/-- Binary32 of 2^32, the scale of S, T and W. -/
def f32Scale32 : Word := 0x4F800000#32

/-- Binary32 of 1.0. -/
def f32One : Word := 0x3F800000#32

/-- A converted value and the number of draws used so far. -/
structure Drawn (α : Type) where
  value : α
  draws : Nat

/-- A vertex coordinate `s16(trunc(f * 16.0))`; a draw where the conversion has no value (log entry 15). -/
def setupVertex (f : Word) (k : Nat) : Drawn Half :=
  match convert32 16 (mul32 f f32Sixteen) with
  | some v => ⟨v, k⟩
  | none => ⟨Config.drawS16 k, k + 1⟩

/-- `I32(f)`. -/
def setupI32 (f : Word) (k : Nat) : Drawn Word :=
  match convert32 32 f with
  | some v => ⟨v, k⟩
  | none => ⟨Config.drawS32 k, k + 1⟩

/-- `I64(f)`. -/
def setupI64 (f : Word) (k : Nat) : Drawn Wide :=
  match convert32 64 f with
  | some v => ⟨v, k⟩
  | none => ⟨Config.drawS64 k, k + 1⟩

/-! ### The triangle's geometry -/

/-- The positions of the three vertices and the reciprocal of the area (41_triangle.md R222). -/
structure SetupGeometry where
  dx1 : Word
  dx2 : Word
  dy1 : Word
  dy2 : Word
  divisor : Word
deriving DecidableEq, Repr

/-- `area`. -/
def setupArea (p0 p1 p2 : SetupVertex) : Word :=
  sub32 (mul32 (sub32 p0.x p1.x) (sub32 p0.y p2.y)) (mul32 (sub32 p0.x p2.x) (sub32 p0.y p1.y))

/-- The geometry of the buffer's triangle. -/
def setupGeometry (p0 p1 p2 : SetupVertex) : SetupGeometry where
  dx1 := sub32 p0.y p2.y
  dx2 := sub32 p0.y p1.y
  dy1 := sub32 p0.x p1.x
  dy2 := sub32 p0.x p2.x
  divisor := div32 f32One (setupArea p0 p1 p2)

/-- `Culled(divisor)` (41_triangle.md R223; log entry 16). -/
def culled (on : CullPolarity) (mode : Word) (sverts : Nat) (divisor : Word) : Bool :=
  if ¬ setupCull mode then false
  else
    let pingPong := !setupFan mode && !setupNoPingPong mode
    let odd := decide (((sverts : Int) - 3) % 2 = 1)
    let want := if pingPong then setupCullSign mode != odd else setupCullSign mode
    let have' := isNegative32 divisor
    match on with
    | .onMismatch => have' != want
    | .onMatch => have' == want

/-- The three values of a parameter before conversion: start, d/dX and d/dY (41_triangle.md R222, `Param`). -/
structure RawParam where
  start : Word
  dx : Word
  dy : Word
deriving DecidableEq, Repr

/-- `Param(q, scale)` before conversion, for the values `q0`, `q1`, `q2` of the field at the three vertices. -/
def rawParam (g : SetupGeometry) (scale q0 q1 q2 : Word) : RawParam :=
  let d1 := sub32 q0 q1
  let d2 := sub32 q0 q2
  let f := mul32 g.divisor scale
  { start := mul32 q0 scale
    dx := mul32 (sub32 (mul32 d1 g.dx1) (mul32 d2 g.dx2)) f
    dy := mul32 (sub32 (mul32 d2 g.dy1) (mul32 d1 g.dy2)) f }

/-- `Param(q, 4096.0)`. -/
def param32 (g : SetupGeometry) (q0 q1 q2 : Word) (k : Nat) : Drawn Grad32 :=
  let p := rawParam g f32Scale12 q0 q1 q2
  let start := setupI32 p.start k
  let dx := setupI32 p.dx start.draws
  let dy := setupI32 p.dy dx.draws
  ⟨⟨start.value, dx.value, dy.value⟩, dy.draws⟩

/-- `Param(q, 2^32)`. -/
def param64 (g : SetupGeometry) (q0 q1 q2 : Word) (k : Nat) : Drawn Grad64 :=
  let p := rawParam g f32Scale32 q0 q1 q2
  let start := setupI64 p.start k
  let dx := setupI64 p.dx start.draws
  let dy := setupI64 p.dy dx.draws
  ⟨⟨start.value, dx.value, dy.value⟩, dy.draws⟩

/-! ### Storing the parameters -/

/-- Compute a field as `Param(q, 4096.0)` and store it in the FBI iterators with `put`. -/
def setupParam32 (g : SetupGeometry) (q : SetupVertex → Word) (put : Grad32 → FbiIter → FbiIter) (s : State) : State :=
  let d := param32 g (q s.setup.v0) (q s.setup.v1) (q s.setup.v2) s.draws
  { s with fbi := put d.value s.fbi, draws := d.draws }

/-- Compute a field as `Param(q, 2^32)`, once, and store it with `put` wherever it goes (log entry 38). -/
def setupParam64 (g : SetupGeometry) (q : SetupVertex → Word) (put : Grad64 → State → State) (s : State) : State :=
  let d := param64 g (q s.setup.v0) (q s.setup.v1) (q s.setup.v2) s.draws
  put d.value { s with draws := d.draws }

/-- Store a W in the FBI and both TMUs. -/
def putWAll (v : Grad64) (s : State) : State :=
  { s with fbi := { s.fbi with w := v }, tmu0 := { s.tmu0 with w := v }, tmu1 := { s.tmu1 with w := v } }

/-- Store a W in both TMUs. -/
def putWTmus (v : Grad64) (s : State) : State :=
  { s with tmu0 := { s.tmu0 with w := v }, tmu1 := { s.tmu1 with w := v } }

/-- Store an S in both TMUs. -/
def putSTmus (v : Grad64) (s : State) : State :=
  { s with tmu0 := { s.tmu0 with s := v }, tmu1 := { s.tmu1 with s := v } }

/-- Store a T in both TMUs. -/
def putTTmus (v : Grad64) (s : State) : State :=
  { s with tmu0 := { s.tmu0 with t := v }, tmu1 := { s.tmu1 with t := v } }

/-- Store a W in TMU1. -/
def putW1 (v : Grad64) (s : State) : State := { s with tmu1 := { s.tmu1 with w := v } }

/-- Store an S in TMU1. -/
def putS1 (v : Grad64) (s : State) : State := { s with tmu1 := { s.tmu1 with s := v } }

/-- Store a T in TMU1. -/
def putT1 (v : Grad64) (s : State) : State := { s with tmu1 := { s.tmu1 with t := v } }

/-- Run `f` when `b` holds. -/
def applyIf (b : Bool) (f : State → State) (s : State) : State := if b then f s else s

/-- The colours of sSetupMode[0]. -/
def setupColors (g : SetupGeometry) (s : State) : State :=
  setupParam32 g (fun v => v.b) (fun d f => { f with b := d })
    (setupParam32 g (fun v => v.g) (fun d f => { f with g := d })
      (setupParam32 g (fun v => v.r) (fun d f => { f with r := d }) s))

/-- The alpha of sSetupMode[1]. -/
def setupAlpha (g : SetupGeometry) (s : State) : State :=
  setupParam32 g (fun v => v.a) (fun d f => { f with a := d }) s

/-- The depth of sSetupMode[2]. -/
def setupDepth (g : SetupGeometry) (s : State) : State :=
  setupParam32 g (fun v => v.z) (fun d f => { f with z := d }) s

/-- The S and T of sSetupMode[5]. -/
def setupCoords0 (g : SetupGeometry) (s : State) : State :=
  setupParam64 g (fun v => v.t0) putTTmus (setupParam64 g (fun v => v.s0) putSTmus s)

/-- The S and T of sSetupMode[7]. -/
def setupCoords1 (g : SetupGeometry) (s : State) : State :=
  setupParam64 g (fun v => v.t1) putT1 (setupParam64 g (fun v => v.s1) putS1 s)

/-- The fields that sSetupMode selects, in the order of 41_triangle.md R222. -/
def setupParams (mode : Word) (g : SetupGeometry) (s : State) : State :=
  let s := applyIf (setupRgb mode) (setupColors g) s
  let s := applyIf (setupA mode) (setupAlpha g) s
  let s := applyIf (setupZ mode) (setupDepth g) s
  let s := applyIf (setupWb mode) (setupParam64 g (fun v => v.wb) putWAll) s
  let s := applyIf (setupW0 mode) (setupParam64 g (fun v => v.w0) putWTmus) s
  let s := applyIf (setupST0 mode) (setupCoords0 g) s
  let s := applyIf (setupW1 mode) (setupParam64 g (fun v => v.w1) putW1) s
  applyIf (setupST1 mode) (setupCoords1 g) s

/-- The vertex positions in 12.4, stored before the culling test. -/
def setupPositions (s : State) : State :=
  let b := s.setup
  let ax := setupVertex b.v0.x s.draws
  let ay := setupVertex b.v0.y ax.draws
  let bx := setupVertex b.v1.x ay.draws
  let by' := setupVertex b.v1.y bx.draws
  let cx := setupVertex b.v2.x by'.draws
  let cy := setupVertex b.v2.y cx.draws
  let f := s.fbi
  let f' := { f with vax := ax.value, vay := ay.value, vbx := bx.value, vby := by'.value, vcx := cx.value,
                     vcy := cy.value }
  { s with fbi := f', draws := cy.draws }

/-- `SetupTriangle()` (41_triangle.md R222). -/
def setupTriangle (s : State) : Out :=
  let mode := s.sSetupMode
  let g := setupGeometry s.setup.v0 s.setup.v1 s.setup.v2
  let s := setupPositions s
  if culled s.cfg.cullOn mode s.setup.sverts g.divisor then .next s
  else triangle (setupParams mode g s)

/-- sBeginTriCMD (41_triangle.md R220). -/
def beginTriangle (s : State) : State :=
  let v := s.currentVertex
  { s with setup := ⟨v, v, v, 1⟩ }

/-- The vertex push of sDrawTriCMD (41_triangle.md R221). -/
def pushVertex (s : State) : State :=
  let b := s.setup
  let v0 := if setupFan s.sSetupMode then b.v0 else b.v1
  { s with setup := ⟨v0, b.v2, s.currentVertex, b.sverts + 1⟩ }

/-- sDrawTriCMD (41_triangle.md R221). -/
def drawTriangle (s : State) : Out :=
  let s := pushVertex s
  if 3 ≤ s.setup.sverts then setupTriangle s else .next s

end Sys2Proof.Machine
end

