-- ==== Sys2Proof/Machine/Triangle.lean ====
section
/-! DEFINITION. The triangle commands (41_triangle.md R210, R211, R220, R221). -/

namespace Sys2Proof.Machine

/-- triangleCMD and ftriangleCMD: the sign is stored, then the triangle runs (41_triangle.md R210, R211). -/
def triangleWrite (_ : ChipSet) (data : Word) (s : State) : Out :=
  triangle { s with fbi := { s.fbi with sign := bit data 31 } }

/-- triangleCMD (41_triangle.md R210). -/
def execTriangleCMD (a : RegAccess) (s : State) : Out :=
  storedReg 0x20 triangleWrite a s

/-- ftriangleCMD (41_triangle.md R211). -/
def execFtriangleCMD (a : RegAccess) (s : State) : Out :=
  storedReg 0x40 triangleWrite a s

/-- sBeginTriCMD (41_triangle.md R220). -/
def execSBeginTriCMD (a : RegAccess) (s : State) : Out :=
  storedReg 0xA9 (fun _ _ s => .next (beginTriangle s)) a s

/-- sDrawTriCMD (41_triangle.md R221). -/
def execSDrawTriCMD (a : RegAccess) (s : State) : Out :=
  storedReg 0xA8 (fun _ _ s => drawTriangle s) a s

end Sys2Proof.Machine
end

