-- ==== Sys2Proof/Machine/Dispatch.lean ====
section
/-! DEFINITION. The meaning of every transaction: one arm per constructor. -/

namespace Sys2Proof.Machine

/-- Run a transaction. -/
def exec (i : Instr) (s : State) : Host.Outcome State Fault Refusal :=
  match i with
  | .status a => Sys2Proof.Machine.execStatus a s
  | .intrCtrl a => Sys2Proof.Machine.execIntrCtrl a s
  | .vertexAx a => Sys2Proof.Machine.execVertexAx a s
  | .vertexAy a => Sys2Proof.Machine.execVertexAy a s
  | .vertexBx a => Sys2Proof.Machine.execVertexBx a s
  | .vertexBy a => Sys2Proof.Machine.execVertexBy a s
  | .vertexCx a => Sys2Proof.Machine.execVertexCx a s
  | .vertexCy a => Sys2Proof.Machine.execVertexCy a s
  | .startR a => Sys2Proof.Machine.execStartR a s
  | .startG a => Sys2Proof.Machine.execStartG a s
  | .startB a => Sys2Proof.Machine.execStartB a s
  | .startZ a => Sys2Proof.Machine.execStartZ a s
  | .startA a => Sys2Proof.Machine.execStartA a s
  | .startS a => Sys2Proof.Machine.execStartS a s
  | .startT a => Sys2Proof.Machine.execStartT a s
  | .startW a => Sys2Proof.Machine.execStartW a s
  | .dRdX a => Sys2Proof.Machine.execDRdX a s
  | .dGdX a => Sys2Proof.Machine.execDGdX a s
  | .dBdX a => Sys2Proof.Machine.execDBdX a s
  | .dZdX a => Sys2Proof.Machine.execDZdX a s
  | .dAdX a => Sys2Proof.Machine.execDAdX a s
  | .dSdX a => Sys2Proof.Machine.execDSdX a s
  | .dTdX a => Sys2Proof.Machine.execDTdX a s
  | .dWdX a => Sys2Proof.Machine.execDWdX a s
  | .dRdY a => Sys2Proof.Machine.execDRdY a s
  | .dGdY a => Sys2Proof.Machine.execDGdY a s
  | .dBdY a => Sys2Proof.Machine.execDBdY a s
  | .dZdY a => Sys2Proof.Machine.execDZdY a s
  | .dAdY a => Sys2Proof.Machine.execDAdY a s
  | .dSdY a => Sys2Proof.Machine.execDSdY a s
  | .dTdY a => Sys2Proof.Machine.execDTdY a s
  | .dWdY a => Sys2Proof.Machine.execDWdY a s
  | .triangleCMD a => Sys2Proof.Machine.execTriangleCMD a s
  | .fvertexAx a => Sys2Proof.Machine.execFvertexAx a s
  | .fvertexAy a => Sys2Proof.Machine.execFvertexAy a s
  | .fvertexBx a => Sys2Proof.Machine.execFvertexBx a s
  | .fvertexBy a => Sys2Proof.Machine.execFvertexBy a s
  | .fvertexCx a => Sys2Proof.Machine.execFvertexCx a s
  | .fvertexCy a => Sys2Proof.Machine.execFvertexCy a s
  | .fstartR a => Sys2Proof.Machine.execFstartR a s
  | .fstartG a => Sys2Proof.Machine.execFstartG a s
  | .fstartB a => Sys2Proof.Machine.execFstartB a s
  | .fstartZ a => Sys2Proof.Machine.execFstartZ a s
  | .fstartA a => Sys2Proof.Machine.execFstartA a s
  | .fstartS a => Sys2Proof.Machine.execFstartS a s
  | .fstartT a => Sys2Proof.Machine.execFstartT a s
  | .fstartW a => Sys2Proof.Machine.execFstartW a s
  | .fdRdX a => Sys2Proof.Machine.execFdRdX a s
  | .fdGdX a => Sys2Proof.Machine.execFdGdX a s
  | .fdBdX a => Sys2Proof.Machine.execFdBdX a s
  | .fdZdX a => Sys2Proof.Machine.execFdZdX a s
  | .fdAdX a => Sys2Proof.Machine.execFdAdX a s
  | .fdSdX a => Sys2Proof.Machine.execFdSdX a s
  | .fdTdX a => Sys2Proof.Machine.execFdTdX a s
  | .fdWdX a => Sys2Proof.Machine.execFdWdX a s
  | .fdRdY a => Sys2Proof.Machine.execFdRdY a s
  | .fdGdY a => Sys2Proof.Machine.execFdGdY a s
  | .fdBdY a => Sys2Proof.Machine.execFdBdY a s
  | .fdZdY a => Sys2Proof.Machine.execFdZdY a s
  | .fdAdY a => Sys2Proof.Machine.execFdAdY a s
  | .fdSdY a => Sys2Proof.Machine.execFdSdY a s
  | .fdTdY a => Sys2Proof.Machine.execFdTdY a s
  | .fdWdY a => Sys2Proof.Machine.execFdWdY a s
  | .ftriangleCMD a => Sys2Proof.Machine.execFtriangleCMD a s
  | .fbzColorPath a => Sys2Proof.Machine.execFbzColorPath a s
  | .fogMode a => Sys2Proof.Machine.execFogMode a s
  | .alphaMode a => Sys2Proof.Machine.execAlphaMode a s
  | .fbzMode a => Sys2Proof.Machine.execFbzMode a s
  | .lfbMode a => Sys2Proof.Machine.execLfbMode a s
  | .clipLeftRight a => Sys2Proof.Machine.execClipLeftRight a s
  | .clipLowYHighY a => Sys2Proof.Machine.execClipLowYHighY a s
  | .nopCMD a => Sys2Proof.Machine.execNopCMD a s
  | .fastfillCMD a => Sys2Proof.Machine.execFastfillCMD a s
  | .swapbufferCMD a => Sys2Proof.Machine.execSwapbufferCMD a s
  | .fogColor a => Sys2Proof.Machine.execFogColor a s
  | .zaColor a => Sys2Proof.Machine.execZaColor a s
  | .chromaKey a => Sys2Proof.Machine.execChromaKey a s
  | .chromaRange a => Sys2Proof.Machine.execChromaRange a s
  | .userIntrCMD a => Sys2Proof.Machine.execUserIntrCMD a s
  | .stipple a => Sys2Proof.Machine.execStipple a s
  | .color0 a => Sys2Proof.Machine.execColor0 a s
  | .color1 a => Sys2Proof.Machine.execColor1 a s
  | .fbiPixelsIn a => Sys2Proof.Machine.execFbiPixelsIn a s
  | .fbiChromaFail a => Sys2Proof.Machine.execFbiChromaFail a s
  | .fbiZfuncFail a => Sys2Proof.Machine.execFbiZfuncFail a s
  | .fbiAfuncFail a => Sys2Proof.Machine.execFbiAfuncFail a s
  | .fbiPixelsOut a => Sys2Proof.Machine.execFbiPixelsOut a s
  | .fogTable0 a => Sys2Proof.Machine.execFogTable0 a s
  | .fogTable1 a => Sys2Proof.Machine.execFogTable1 a s
  | .fogTable2 a => Sys2Proof.Machine.execFogTable2 a s
  | .fogTable3 a => Sys2Proof.Machine.execFogTable3 a s
  | .fogTable4 a => Sys2Proof.Machine.execFogTable4 a s
  | .fogTable5 a => Sys2Proof.Machine.execFogTable5 a s
  | .fogTable6 a => Sys2Proof.Machine.execFogTable6 a s
  | .fogTable7 a => Sys2Proof.Machine.execFogTable7 a s
  | .fogTable8 a => Sys2Proof.Machine.execFogTable8 a s
  | .fogTable9 a => Sys2Proof.Machine.execFogTable9 a s
  | .fogTable10 a => Sys2Proof.Machine.execFogTable10 a s
  | .fogTable11 a => Sys2Proof.Machine.execFogTable11 a s
  | .fogTable12 a => Sys2Proof.Machine.execFogTable12 a s
  | .fogTable13 a => Sys2Proof.Machine.execFogTable13 a s
  | .fogTable14 a => Sys2Proof.Machine.execFogTable14 a s
  | .fogTable15 a => Sys2Proof.Machine.execFogTable15 a s
  | .fogTable16 a => Sys2Proof.Machine.execFogTable16 a s
  | .fogTable17 a => Sys2Proof.Machine.execFogTable17 a s
  | .fogTable18 a => Sys2Proof.Machine.execFogTable18 a s
  | .fogTable19 a => Sys2Proof.Machine.execFogTable19 a s
  | .fogTable20 a => Sys2Proof.Machine.execFogTable20 a s
  | .fogTable21 a => Sys2Proof.Machine.execFogTable21 a s
  | .fogTable22 a => Sys2Proof.Machine.execFogTable22 a s
  | .fogTable23 a => Sys2Proof.Machine.execFogTable23 a s
  | .fogTable24 a => Sys2Proof.Machine.execFogTable24 a s
  | .fogTable25 a => Sys2Proof.Machine.execFogTable25 a s
  | .fogTable26 a => Sys2Proof.Machine.execFogTable26 a s
  | .fogTable27 a => Sys2Proof.Machine.execFogTable27 a s
  | .fogTable28 a => Sys2Proof.Machine.execFogTable28 a s
  | .fogTable29 a => Sys2Proof.Machine.execFogTable29 a s
  | .fogTable30 a => Sys2Proof.Machine.execFogTable30 a s
  | .fogTable31 a => Sys2Proof.Machine.execFogTable31 a s
  | .cmdFifoBaseAddr a => Sys2Proof.Machine.execCmdFifoBaseAddr a s
  | .cmdFifoBump a => Sys2Proof.Machine.execCmdFifoBump a s
  | .cmdFifoRdPtr a => Sys2Proof.Machine.execCmdFifoRdPtr a s
  | .cmdFifoAMin a => Sys2Proof.Machine.execCmdFifoAMin a s
  | .cmdFifoAMax a => Sys2Proof.Machine.execCmdFifoAMax a s
  | .cmdFifoDepth a => Sys2Proof.Machine.execCmdFifoDepth a s
  | .cmdFifoHoles a => Sys2Proof.Machine.execCmdFifoHoles a s
  | .fbiInit4 a => Sys2Proof.Machine.execFbiInit4 a s
  | .vRetrace a => Sys2Proof.Machine.execVRetrace a s
  | .backPorch a => Sys2Proof.Machine.execBackPorch a s
  | .videoDimensions a => Sys2Proof.Machine.execVideoDimensions a s
  | .fbiInit0 a => Sys2Proof.Machine.execFbiInit0 a s
  | .fbiInit1 a => Sys2Proof.Machine.execFbiInit1 a s
  | .fbiInit2 a => Sys2Proof.Machine.execFbiInit2 a s
  | .fbiInit3 a => Sys2Proof.Machine.execFbiInit3 a s
  | .hSync a => Sys2Proof.Machine.execHSync a s
  | .vSync a => Sys2Proof.Machine.execVSync a s
  | .clutData a => Sys2Proof.Machine.execClutData a s
  | .dacData a => Sys2Proof.Machine.execDacData a s
  | .maxRgbDelta a => Sys2Proof.Machine.execMaxRgbDelta a s
  | .hBorder a => Sys2Proof.Machine.execHBorder a s
  | .vBorder a => Sys2Proof.Machine.execVBorder a s
  | .borderColor a => Sys2Proof.Machine.execBorderColor a s
  | .hvRetrace a => Sys2Proof.Machine.execHvRetrace a s
  | .fbiInit5 a => Sys2Proof.Machine.execFbiInit5 a s
  | .fbiInit6 a => Sys2Proof.Machine.execFbiInit6 a s
  | .fbiInit7 a => Sys2Proof.Machine.execFbiInit7 a s
  | .fbiSwapHistory a => Sys2Proof.Machine.execFbiSwapHistory a s
  | .fbiTrianglesOut a => Sys2Proof.Machine.execFbiTrianglesOut a s
  | .sSetupMode a => Sys2Proof.Machine.execSSetupMode a s
  | .sVx a => Sys2Proof.Machine.execSVx a s
  | .sVy a => Sys2Proof.Machine.execSVy a s
  | .sARGB a => Sys2Proof.Machine.execSARGB a s
  | .sRed a => Sys2Proof.Machine.execSRed a s
  | .sGreen a => Sys2Proof.Machine.execSGreen a s
  | .sBlue a => Sys2Proof.Machine.execSBlue a s
  | .sAlpha a => Sys2Proof.Machine.execSAlpha a s
  | .sVz a => Sys2Proof.Machine.execSVz a s
  | .sWb a => Sys2Proof.Machine.execSWb a s
  | .sWtmu0 a => Sys2Proof.Machine.execSWtmu0 a s
  | .sS_W0 a => Sys2Proof.Machine.execSS_W0 a s
  | .sT_W0 a => Sys2Proof.Machine.execST_W0 a s
  | .sWtmu1 a => Sys2Proof.Machine.execSWtmu1 a s
  | .sS_Wtmu1 a => Sys2Proof.Machine.execSS_Wtmu1 a s
  | .sT_Wtmu1 a => Sys2Proof.Machine.execST_Wtmu1 a s
  | .sDrawTriCMD a => Sys2Proof.Machine.execSDrawTriCMD a s
  | .sBeginTriCMD a => Sys2Proof.Machine.execSBeginTriCMD a s
  | .blt n a => Sys2Proof.Machine.execBlt n a s
  | .textureMode a => Sys2Proof.Machine.execTextureMode a s
  | .tLOD a => Sys2Proof.Machine.execTLOD a s
  | .tDetail a => Sys2Proof.Machine.execTDetail a s
  | .texBaseAddr a => Sys2Proof.Machine.execTexBaseAddr a s
  | .texBaseAddr_1 a => Sys2Proof.Machine.execTexBaseAddr_1 a s
  | .texBaseAddr_2 a => Sys2Proof.Machine.execTexBaseAddr_2 a s
  | .texBaseAddr_3_8 a => Sys2Proof.Machine.execTexBaseAddr_3_8 a s
  | .trexInit0 a => Sys2Proof.Machine.execTrexInit0 a s
  | .trexInit1 a => Sys2Proof.Machine.execTrexInit1 a s
  | .nccTable0_0 a => Sys2Proof.Machine.execNccTable0_0 a s
  | .nccTable0_1 a => Sys2Proof.Machine.execNccTable0_1 a s
  | .nccTable0_2 a => Sys2Proof.Machine.execNccTable0_2 a s
  | .nccTable0_3 a => Sys2Proof.Machine.execNccTable0_3 a s
  | .nccTable0_4 a => Sys2Proof.Machine.execNccTable0_4 a s
  | .nccTable0_5 a => Sys2Proof.Machine.execNccTable0_5 a s
  | .nccTable0_6 a => Sys2Proof.Machine.execNccTable0_6 a s
  | .nccTable0_7 a => Sys2Proof.Machine.execNccTable0_7 a s
  | .nccTable0_8 a => Sys2Proof.Machine.execNccTable0_8 a s
  | .nccTable0_9 a => Sys2Proof.Machine.execNccTable0_9 a s
  | .nccTable0_10 a => Sys2Proof.Machine.execNccTable0_10 a s
  | .nccTable0_11 a => Sys2Proof.Machine.execNccTable0_11 a s
  | .nccTable1_0 a => Sys2Proof.Machine.execNccTable1_0 a s
  | .nccTable1_1 a => Sys2Proof.Machine.execNccTable1_1 a s
  | .nccTable1_2 a => Sys2Proof.Machine.execNccTable1_2 a s
  | .nccTable1_3 a => Sys2Proof.Machine.execNccTable1_3 a s
  | .nccTable1_4 a => Sys2Proof.Machine.execNccTable1_4 a s
  | .nccTable1_5 a => Sys2Proof.Machine.execNccTable1_5 a s
  | .nccTable1_6 a => Sys2Proof.Machine.execNccTable1_6 a s
  | .nccTable1_7 a => Sys2Proof.Machine.execNccTable1_7 a s
  | .nccTable1_8 a => Sys2Proof.Machine.execNccTable1_8 a s
  | .nccTable1_9 a => Sys2Proof.Machine.execNccTable1_9 a s
  | .nccTable1_10 a => Sys2Proof.Machine.execNccTable1_10 a s
  | .nccTable1_11 a => Sys2Proof.Machine.execNccTable1_11 a s
  | .lfbWr l data => Sys2Proof.Machine.execLfbWr l data s
  | .lfbRd l => Sys2Proof.Machine.execLfbRd l s
  | .texWr unit lod row sword data => Sys2Proof.Machine.execTexWr unit lod row sword data s
  | .texRd unit lod row sword => Sys2Proof.Machine.execTexRd unit lod row sword s

end Sys2Proof.Machine
end

