-- ==== Sys2Proof/Machine/Fetch.lean ====
section
/-! DEFINITION. Taking an input: the bus transaction, the VBlank event and the swap hold (60_exceptions.md R410; 44_commands.md
R372). -/

namespace Sys2Proof.Machine

/-- Run a bus request (20_memory.md R102; 30_encoding.md R130, R137): decoded under the alternate map's state, run, or
rejected. -/
def runRequest (q : BusRequest) (s : State) : Out :=
  match decode s.remap q with
  | .ok i => exec i s
  | .error .narrow => .refused .narrowRequest
  | .error (.reserved n a) => reservedAccess n a s

/-- Take one input (60_exceptions.md R410). -/
def takeInput (i : HostInput) (s : State) : Out :=
  match i with
  | .bus q display => runRequest q { s with display := display }
  | .vblank => .next (vblank s)

/-- The inputs without their first VBlank event; `none` when there is none. -/
def dropVblank : List HostInput → Option (List HostInput)
  | [] => none
  | .vblank :: rest => some rest
  | .bus q d :: rest => (dropVblank rest).map (.bus q d :: ·)

/-- A step of the swap hold (44_commands.md R372): the only enabled transition is VBlank; bus transactions wait (log entry
12). Without a VBlank event nothing changes. -/
def holdStep (s : State) : Out :=
  match dropVblank s.inbox with
  | none => .next s
  | some rest => .next (vblank { s with inbox := rest })

/-- A step outside the hold: the next input, in the host's order; without one nothing changes (log entry 11). -/
def inputStep (s : State) : Out :=
  match s.inbox with
  | [] => .next s
  | i :: rest => takeInput i { s with inbox := rest }

end Sys2Proof.Machine
end

