-- ==== Sys2Proof/Machine/Step.lean ====
section
/-! DEFINITION. One step of the block (00_scope.md R19). -/

namespace Sys2Proof.Machine

/-- One step: none after a fatal error (60_exceptions.md R402), a step of the swap hold (44_commands.md R372), or the next
input. -/
def step (s : State) : Host.Outcome State Fault Refusal :=
  if s.fatal then .fault .stopped
  else if s.swap.pending then holdStep s
  else inputStep s

/-- `s` with the transaction of a table word next in the inbox, outside the hold and the fatal state (log entry 11). -/
def State.withFetchWord (s : State) (nbits w : Nat) : State :=
  { s with
    inbox := .bus (BusRequest.ofBits (w % 2 ^ nbits)) s.display :: s.inbox
    swap := { s.swap with pending := false }
    fatal := false }

end Sys2Proof.Machine
end

