-- ==== Sys2Proof/Safety.lean ====
section
/-! DEFINITION. What counts as a sound state of the block, and the terms the claims use: the registers by the form of their
transaction, stored slots, and the bytes a pixel stores to. -/

namespace Sys2Proof.Machine

/-! ### The invariant -/

/-- An NCC table's coefficients are canonical tables inside their ranges, and a table that is not dirty holds the lookup of
its coefficients (10_state.md R63; 42_texture.md R273). -/
def NccTable.sound (n : NccTable) : Bool :=
  tableWf 0 n.y && tableBelow 16 n.y && tableWf ⟨0, 0, 0⟩ n.i && tableBelow 4 n.i && tableWf ⟨0, 0, 0⟩ n.q &&
    tableBelow 4 n.q && (n.dirty || decide (n = regenerateNcc n))

/-- A TMU's palette and memory are canonical and inside their ranges (10_state.md R64; 20_memory.md R105). -/
def Tmu.sound (t : Tmu) (texBits : Nat) : Bool :=
  t.ncc0.sound && t.ncc1.sound && tableWf 0 t.palette && tableBelow 256 t.palette && t.ram.wf &&
    tableBelow (2 ^ texBits) t.ram

/-- Every listed register slot belongs to a chip of CHIPMASK: an absent chip has no slice that accepts writes (10_state.md
R22). -/
def State.presentSlots (s : State) : Bool := s.regs.all fun e => bit s.cfg.chipmask (e.1 / 256)

/-- A TMU that is not dirty holds the derived state of its registers (10_state.md R60; 42_texture.md R251). -/
def State.derivedSound (s : State) (u : TmuId) : Bool := (s.tmu u).dirty || decide (s.tmu u = s.derived u)

/-- The surface layout is the function of the init registers (10_state.md R69). -/
def State.layoutSound (s : State) : Bool :=
  decide (s.surf = fbLayout s.cfg.gen (2 ^ s.cfg.fbBits) s.fbiInit1 s.fbiInit2 s.fbiInit3 s.fbiInit5)

/-- The cache holds each key once and at most its capacity (60_exceptions.md R404). -/
def State.cacheSound (s : State) : Bool :=
  decide s.cacheStates.Nodup && decide (s.cacheStates.length ≤ Config.cacheCapacity - s.cfg.cacheReserved)

/-- The blank count is capped, only V1 holds a swap, and with two colour surfaces neither index names a third
(44_commands.md R370 to R372; 40_register_access.md R176). -/
def State.swapSound (s : State) : Bool :=
  decide (s.swap.vblankCount ≤ 250) && (!s.swap.pending || decide (s.cfg.gen = .v1)) &&
    (s.surf.rgb2.isSome || (decide (s.swap.front ≠ 2) && decide (s.swap.back ≠ 2)))

/-- The tables of the block are canonical and inside their ranges (10_state.md R21, R43, R68). -/
def State.tablesSound (s : State) : Bool :=
  tableWf 0 s.regs && tableBelow 1024 s.regs && tableWf 0 s.fogBlend && tableBelow 64 s.fogBlend &&
    tableWf 0 s.fogDelta && tableBelow 64 s.fogDelta && s.fbram.wf && tableBelow (2 ^ s.cfg.fbBits) s.fbram

/-- The invariant of the block, in an instance that construction accepts. -/
structure State.Inv (s : State) : Prop where
  params : s.cfg.wellFormed = true
  tables : s.tablesSound = true
  tmu0 : s.tmu0.sound s.cfg.texBits0 = true
  tmu1 : s.tmu1.sound s.cfg.texBits1 = true
  present : s.presentSlots = true
  derived0 : s.derivedSound .t0 = true
  derived1 : s.derivedSound .t1 = true
  layout : s.layoutSound = true
  cache : s.cacheSound = true
  swap : s.swapSound = true

/-! ### Register transactions by form -/

/-- A register: the constructor of its transactions, its number, and whether only V2 has the access in question
(10_state.md R30). -/
structure RegRow where
  instr : RegAccess → Instr
  num : RegNum
  v2only : Bool

/-- The register exists in the state's generation, and the write's effective chip set is not empty. -/
def RegRow.Open (row : RegRow) (s : State) (chipsel : ChipSet) : Prop :=
  (row.v2only = true → s.cfg.gen = .v2) ∧ effectiveChips chipsel s.cfg.chipmask ≠ 0#4

/-- `new` is `old` with `data` in register `n` of every chip of `chips` and nothing else changed (40_register_access.md
R174). -/
def SlotsStored (old new : Table Word) (chips : ChipSet) (n : RegNum) (data : Word) : Prop :=
  tableWf 0 new = true ∧ ∀ c, c < 4 → ∀ m : RegNum,
    readTable 0 new (slotOf c m) = if m = n ∧ bit chips c = true then data else readTable 0 old (slotOf c m)

/-- A parameter register of a unit: the conversion of its data word and the iterator it sets (30_encoding.md R140 to
R145). -/
structure ParamRow (α σ : Type) where
  instr : RegAccess → Instr
  num : RegNum
  conv : Word → α
  put : α → σ → σ

/-- The vertex registers (30_encoding.md R140, R145). -/
def vertexRows : List (ParamRow Half FbiIter) :=
  [⟨.vertexAx, 0x02, fun d => d.extractLsb' 0 16, fun v f => { f with vax := v }⟩,
   ⟨.vertexAy, 0x03, fun d => d.extractLsb' 0 16, fun v f => { f with vay := v }⟩,
   ⟨.vertexBx, 0x04, fun d => d.extractLsb' 0 16, fun v f => { f with vbx := v }⟩,
   ⟨.vertexBy, 0x05, fun d => d.extractLsb' 0 16, fun v f => { f with vby := v }⟩,
   ⟨.vertexCx, 0x06, fun d => d.extractLsb' 0 16, fun v f => { f with vcx := v }⟩,
   ⟨.vertexCy, 0x07, fun d => d.extractLsb' 0 16, fun v f => { f with vcy := v }⟩,
   ⟨.fvertexAx, 0x22, fun d => (f2i32 d 4).extractLsb' 0 16, fun v f => { f with vax := v }⟩,
   ⟨.fvertexAy, 0x23, fun d => (f2i32 d 4).extractLsb' 0 16, fun v f => { f with vay := v }⟩,
   ⟨.fvertexBx, 0x24, fun d => (f2i32 d 4).extractLsb' 0 16, fun v f => { f with vbx := v }⟩,
   ⟨.fvertexBy, 0x25, fun d => (f2i32 d 4).extractLsb' 0 16, fun v f => { f with vby := v }⟩,
   ⟨.fvertexCx, 0x26, fun d => (f2i32 d 4).extractLsb' 0 16, fun v f => { f with vcx := v }⟩,
   ⟨.fvertexCy, 0x27, fun d => (f2i32 d 4).extractLsb' 0 16, fun v f => { f with vcy := v }⟩]

/-- The colour registers (30_encoding.md R141, R145). -/
def colorRows : List (ParamRow Word FbiIter) :=
  [⟨.startR, 0x08, fun d => (d.extractLsb' 0 24).signExtend 32, fun v f => { f with r := { f.r with start := v } }⟩,
   ⟨.startG, 0x09, fun d => (d.extractLsb' 0 24).signExtend 32, fun v f => { f with g := { f.g with start := v } }⟩,
   ⟨.startB, 0x0A, fun d => (d.extractLsb' 0 24).signExtend 32, fun v f => { f with b := { f.b with start := v } }⟩,
   ⟨.startA, 0x0C, fun d => (d.extractLsb' 0 24).signExtend 32, fun v f => { f with a := { f.a with start := v } }⟩,
   ⟨.dRdX, 0x10, fun d => (d.extractLsb' 0 24).signExtend 32, fun v f => { f with r := { f.r with dx := v } }⟩,
   ⟨.dGdX, 0x11, fun d => (d.extractLsb' 0 24).signExtend 32, fun v f => { f with g := { f.g with dx := v } }⟩,
   ⟨.dBdX, 0x12, fun d => (d.extractLsb' 0 24).signExtend 32, fun v f => { f with b := { f.b with dx := v } }⟩,
   ⟨.dAdX, 0x14, fun d => (d.extractLsb' 0 24).signExtend 32, fun v f => { f with a := { f.a with dx := v } }⟩,
   ⟨.dRdY, 0x18, fun d => (d.extractLsb' 0 24).signExtend 32, fun v f => { f with r := { f.r with dy := v } }⟩,
   ⟨.dGdY, 0x19, fun d => (d.extractLsb' 0 24).signExtend 32, fun v f => { f with g := { f.g with dy := v } }⟩,
   ⟨.dBdY, 0x1A, fun d => (d.extractLsb' 0 24).signExtend 32, fun v f => { f with b := { f.b with dy := v } }⟩,
   ⟨.dAdY, 0x1C, fun d => (d.extractLsb' 0 24).signExtend 32, fun v f => { f with a := { f.a with dy := v } }⟩,
   ⟨.fstartR, 0x28, fun d => f2i32 d 12, fun v f => { f with r := { f.r with start := v } }⟩,
   ⟨.fstartG, 0x29, fun d => f2i32 d 12, fun v f => { f with g := { f.g with start := v } }⟩,
   ⟨.fstartB, 0x2A, fun d => f2i32 d 12, fun v f => { f with b := { f.b with start := v } }⟩,
   ⟨.fstartA, 0x2C, fun d => f2i32 d 12, fun v f => { f with a := { f.a with start := v } }⟩,
   ⟨.fdRdX, 0x30, fun d => f2i32 d 12, fun v f => { f with r := { f.r with dx := v } }⟩,
   ⟨.fdGdX, 0x31, fun d => f2i32 d 12, fun v f => { f with g := { f.g with dx := v } }⟩,
   ⟨.fdBdX, 0x32, fun d => f2i32 d 12, fun v f => { f with b := { f.b with dx := v } }⟩,
   ⟨.fdAdX, 0x34, fun d => f2i32 d 12, fun v f => { f with a := { f.a with dx := v } }⟩,
   ⟨.fdRdY, 0x38, fun d => f2i32 d 12, fun v f => { f with r := { f.r with dy := v } }⟩,
   ⟨.fdGdY, 0x39, fun d => f2i32 d 12, fun v f => { f with g := { f.g with dy := v } }⟩,
   ⟨.fdBdY, 0x3A, fun d => f2i32 d 12, fun v f => { f with b := { f.b with dy := v } }⟩,
   ⟨.fdAdY, 0x3C, fun d => f2i32 d 12, fun v f => { f with a := { f.a with dy := v } }⟩]

/-- The depth registers (30_encoding.md R142, R145). -/
def depthRows : List (ParamRow Word FbiIter) :=
  [⟨.startZ, 0x0B, fun d => d, fun v f => { f with z := { f.z with start := v } }⟩,
   ⟨.dZdX, 0x13, fun d => d, fun v f => { f with z := { f.z with dx := v } }⟩,
   ⟨.dZdY, 0x1B, fun d => d, fun v f => { f with z := { f.z with dy := v } }⟩,
   ⟨.fstartZ, 0x2B, fun d => f2i32 d 12, fun v f => { f with z := { f.z with start := v } }⟩,
   ⟨.fdZdX, 0x33, fun d => f2i32 d 12, fun v f => { f with z := { f.z with dx := v } }⟩,
   ⟨.fdZdY, 0x3B, fun d => f2i32 d 12, fun v f => { f with z := { f.z with dy := v } }⟩]

/-- The S and T registers (30_encoding.md R143, R145). -/
def coordRows : List (ParamRow Wide Tmu) :=
  [⟨.startS, 0x0D, fun d => d.signExtend 64 <<< 14, fun v t => { t with s := { t.s with start := v } }⟩,
   ⟨.startT, 0x0E, fun d => d.signExtend 64 <<< 14, fun v t => { t with t := { t.t with start := v } }⟩,
   ⟨.dSdX, 0x15, fun d => d.signExtend 64 <<< 14, fun v t => { t with s := { t.s with dx := v } }⟩,
   ⟨.dTdX, 0x16, fun d => d.signExtend 64 <<< 14, fun v t => { t with t := { t.t with dx := v } }⟩,
   ⟨.dSdY, 0x1D, fun d => d.signExtend 64 <<< 14, fun v t => { t with s := { t.s with dy := v } }⟩,
   ⟨.dTdY, 0x1E, fun d => d.signExtend 64 <<< 14, fun v t => { t with t := { t.t with dy := v } }⟩,
   ⟨.fstartS, 0x2D, fun d => f2i64 d 32, fun v t => { t with s := { t.s with start := v } }⟩,
   ⟨.fstartT, 0x2E, fun d => f2i64 d 32, fun v t => { t with t := { t.t with start := v } }⟩,
   ⟨.fdSdX, 0x35, fun d => f2i64 d 32, fun v t => { t with s := { t.s with dx := v } }⟩,
   ⟨.fdTdX, 0x36, fun d => f2i64 d 32, fun v t => { t with t := { t.t with dx := v } }⟩,
   ⟨.fdSdY, 0x3D, fun d => f2i64 d 32, fun v t => { t with s := { t.s with dy := v } }⟩,
   ⟨.fdTdY, 0x3E, fun d => f2i64 d 32, fun v t => { t with t := { t.t with dy := v } }⟩]

/-- A W register: its conversion, and the iterators it sets in the FBI and in a TMU (30_encoding.md R144, R145). -/
structure WRow where
  instr : RegAccess → Instr
  num : RegNum
  conv : Word → Wide
  putFbi : Wide → FbiIter → FbiIter
  putTmu : Wide → Tmu → Tmu

/-- The W registers (30_encoding.md R144, R145). -/
def wRows : List WRow :=
  [⟨.startW, 0x0F, fun d => d.signExtend 64 <<< 2,
    fun v f => { f with w := { f.w with start := v } }, fun v t => { t with w := { t.w with start := v } }⟩,
   ⟨.dWdX, 0x17, fun d => d.signExtend 64 <<< 2,
    fun v f => { f with w := { f.w with dx := v } }, fun v t => { t with w := { t.w with dx := v } }⟩,
   ⟨.dWdY, 0x1F, fun d => d.signExtend 64 <<< 2,
    fun v f => { f with w := { f.w with dy := v } }, fun v t => { t with w := { t.w with dy := v } }⟩,
   ⟨.fstartW, 0x2F, fun d => f2i64 d 32,
    fun v f => { f with w := { f.w with start := v } }, fun v t => { t with w := { t.w with start := v } }⟩,
   ⟨.fdWdX, 0x37, fun d => f2i64 d 32,
    fun v f => { f with w := { f.w with dx := v } }, fun v t => { t with w := { t.w with dx := v } }⟩,
   ⟨.fdWdY, 0x3F, fun d => f2i64 d 32,
    fun v f => { f with w := { f.w with dy := v } }, fun v t => { t with w := { t.w with dy := v } }⟩]

/-- The store-only registers (40_register_access.md R188). -/
def storeOnlyRows : List RegRow :=
  [⟨.fbzColorPath, 0x41, false⟩,
   ⟨.fogMode, 0x42, false⟩,
   ⟨.alphaMode, 0x43, false⟩,
   ⟨.fbzMode, 0x44, false⟩,
   ⟨.lfbMode, 0x45, false⟩,
   ⟨.clipLeftRight, 0x46, false⟩,
   ⟨.clipLowYHighY, 0x47, false⟩,
   ⟨.fogColor, 0x4B, false⟩,
   ⟨.zaColor, 0x4C, false⟩,
   ⟨.chromaKey, 0x4D, false⟩,
   ⟨.chromaRange, 0x4E, true⟩,
   ⟨.stipple, 0x50, false⟩,
   ⟨.color0, 0x51, false⟩,
   ⟨.color1, 0x52, false⟩,
   ⟨.intrCtrl, 0x01, true⟩,
   ⟨.userIntrCMD, 0x4F, true⟩,
   ⟨.clutData, 0x8A, false⟩,
   ⟨.dacData, 0x8B, false⟩,
   ⟨.maxRgbDelta, 0x8C, false⟩,
   ⟨.borderColor, 0x8F, true⟩,
   ⟨.sSetupMode, 0x98, true⟩]

/-- The setup-vertex data registers but sARGB (40_register_access.md R189). -/
def setupDataRows : List RegRow :=
  [⟨.sVx, 0x99, true⟩,
   ⟨.sVy, 0x9A, true⟩,
   ⟨.sRed, 0x9C, true⟩,
   ⟨.sGreen, 0x9D, true⟩,
   ⟨.sBlue, 0x9E, true⟩,
   ⟨.sAlpha, 0x9F, true⟩,
   ⟨.sVz, 0xA0, true⟩,
   ⟨.sWb, 0xA1, true⟩,
   ⟨.sWtmu0, 0xA2, true⟩,
   ⟨.sS_W0, 0xA3, true⟩,
   ⟨.sT_W0, 0xA4, true⟩,
   ⟨.sWtmu1, 0xA5, true⟩,
   ⟨.sS_Wtmu1, 0xA6, true⟩,
   ⟨.sT_Wtmu1, 0xA7, true⟩]

/-- The memory-layout registers (40_register_access.md R176). -/
def initRegRows : List RegRow :=
  [⟨.fbiInit0, 0x84, false⟩,
   ⟨.fbiInit1, 0x85, false⟩,
   ⟨.fbiInit2, 0x86, false⟩,
   ⟨.fbiInit3, 0x87, false⟩,
   ⟨.fbiInit4, 0x80, false⟩,
   ⟨.fbiInit5, 0x91, true⟩,
   ⟨.fbiInit6, 0x92, true⟩,
   ⟨.fbiInit7, 0x93, true⟩]

/-- The video-timing registers (40_register_access.md R177). -/
def timingRows : List RegRow :=
  [⟨.backPorch, 0x82, false⟩,
   ⟨.videoDimensions, 0x83, false⟩,
   ⟨.hSync, 0x88, false⟩,
   ⟨.vSync, 0x89, false⟩,
   ⟨.hBorder, 0x8D, true⟩,
   ⟨.vBorder, 0x8E, true⟩]

/-- The TMU registers (40_register_access.md R178). -/
def tmuRegRows : List RegRow :=
  [⟨.textureMode, 0xC0, false⟩,
   ⟨.tLOD, 0xC1, false⟩,
   ⟨.tDetail, 0xC2, false⟩,
   ⟨.texBaseAddr, 0xC3, false⟩,
   ⟨.texBaseAddr_1, 0xC4, false⟩,
   ⟨.texBaseAddr_2, 0xC5, false⟩,
   ⟨.texBaseAddr_3_8, 0xC6, false⟩,
   ⟨.trexInit0, 0xC7, false⟩,
   ⟨.trexInit1, 0xC8, false⟩]

/-- The plain readable registers; the flag says that only V2 lets them be read (40_register_access.md R181). -/
def plainReadRows : List RegRow :=
  [⟨.fbzColorPath, 0x41, false⟩,
   ⟨.fogMode, 0x42, false⟩,
   ⟨.alphaMode, 0x43, false⟩,
   ⟨.fbzMode, 0x44, false⟩,
   ⟨.lfbMode, 0x45, false⟩,
   ⟨.clipLeftRight, 0x46, false⟩,
   ⟨.clipLowYHighY, 0x47, false⟩,
   ⟨.nopCMD, 0x48, false⟩,
   ⟨.fastfillCMD, 0x49, false⟩,
   ⟨.swapbufferCMD, 0x4A, false⟩,
   ⟨.stipple, 0x50, false⟩,
   ⟨.color0, 0x51, false⟩,
   ⟨.color1, 0x52, false⟩,
   ⟨.fbiInit0, 0x84, false⟩,
   ⟨.fbiInit1, 0x85, false⟩,
   ⟨.fbiInit2, 0x86, false⟩,
   ⟨.fbiInit3, 0x87, false⟩,
   ⟨.fbiInit4, 0x80, false⟩,
   ⟨.backPorch, 0x82, false⟩,
   ⟨.videoDimensions, 0x83, false⟩,
   ⟨.intrCtrl, 0x01, true⟩,
   ⟨.fogColor, 0x4B, true⟩,
   ⟨.zaColor, 0x4C, true⟩,
   ⟨.chromaKey, 0x4D, true⟩,
   ⟨.chromaRange, 0x4E, true⟩,
   ⟨.fbiInit5, 0x91, true⟩,
   ⟨.fbiInit6, 0x92, true⟩,
   ⟨.fbiInit7, 0x93, true⟩]

/-- The command-FIFO registers (40_register_access.md R173); the blitter registers are `Instr.blt`. -/
def undescribedRows : List RegRow :=
  [⟨.cmdFifoBaseAddr, 0x78, false⟩,
   ⟨.cmdFifoBump, 0x79, false⟩,
   ⟨.cmdFifoRdPtr, 0x7A, false⟩,
   ⟨.cmdFifoAMin, 0x7B, false⟩,
   ⟨.cmdFifoAMax, 0x7C, false⟩,
   ⟨.cmdFifoDepth, 0x7D, false⟩,
   ⟨.cmdFifoHoles, 0x7E, false⟩]

/-- The direct triangle commands (41_triangle.md R210, R211). -/
def triangleRows : List RegRow :=
  [⟨.triangleCMD, 0x20, false⟩,
   ⟨.ftriangleCMD, 0x40, false⟩]

/-- A fog-table register and its index (40_register_access.md R187). -/
structure FogRow where
  instr : RegAccess → Instr
  num : RegNum
  index : Nat

/-- The fog-table registers. -/
def fogRowsByIndex : List FogRow :=
  [⟨.fogTable0, 0x58, 0⟩,
   ⟨.fogTable1, 0x59, 1⟩,
   ⟨.fogTable2, 0x5A, 2⟩,
   ⟨.fogTable3, 0x5B, 3⟩,
   ⟨.fogTable4, 0x5C, 4⟩,
   ⟨.fogTable5, 0x5D, 5⟩,
   ⟨.fogTable6, 0x5E, 6⟩,
   ⟨.fogTable7, 0x5F, 7⟩,
   ⟨.fogTable8, 0x60, 8⟩,
   ⟨.fogTable9, 0x61, 9⟩,
   ⟨.fogTable10, 0x62, 10⟩,
   ⟨.fogTable11, 0x63, 11⟩,
   ⟨.fogTable12, 0x64, 12⟩,
   ⟨.fogTable13, 0x65, 13⟩,
   ⟨.fogTable14, 0x66, 14⟩,
   ⟨.fogTable15, 0x67, 15⟩,
   ⟨.fogTable16, 0x68, 16⟩,
   ⟨.fogTable17, 0x69, 17⟩,
   ⟨.fogTable18, 0x6A, 18⟩,
   ⟨.fogTable19, 0x6B, 19⟩,
   ⟨.fogTable20, 0x6C, 20⟩,
   ⟨.fogTable21, 0x6D, 21⟩,
   ⟨.fogTable22, 0x6E, 22⟩,
   ⟨.fogTable23, 0x6F, 23⟩,
   ⟨.fogTable24, 0x70, 24⟩,
   ⟨.fogTable25, 0x71, 25⟩,
   ⟨.fogTable26, 0x72, 26⟩,
   ⟨.fogTable27, 0x73, 27⟩,
   ⟨.fogTable28, 0x74, 28⟩,
   ⟨.fogTable29, 0x75, 29⟩,
   ⟨.fogTable30, 0x76, 30⟩,
   ⟨.fogTable31, 0x77, 31⟩]

/-- An NCC register: its table and its word (40_register_access.md R179). -/
structure NccRow where
  instr : RegAccess → Instr
  num : RegNum
  table : Bool
  word : Nat

/-- The NCC registers. -/
def nccRows : List NccRow :=
  [⟨.nccTable0_0, 0xC9, false, 0⟩,
   ⟨.nccTable0_1, 0xCA, false, 1⟩,
   ⟨.nccTable0_2, 0xCB, false, 2⟩,
   ⟨.nccTable0_3, 0xCC, false, 3⟩,
   ⟨.nccTable0_4, 0xCD, false, 4⟩,
   ⟨.nccTable0_5, 0xCE, false, 5⟩,
   ⟨.nccTable0_6, 0xCF, false, 6⟩,
   ⟨.nccTable0_7, 0xD0, false, 7⟩,
   ⟨.nccTable0_8, 0xD1, false, 8⟩,
   ⟨.nccTable0_9, 0xD2, false, 9⟩,
   ⟨.nccTable0_10, 0xD3, false, 10⟩,
   ⟨.nccTable0_11, 0xD4, false, 11⟩,
   ⟨.nccTable1_0, 0xD5, true, 0⟩,
   ⟨.nccTable1_1, 0xD6, true, 1⟩,
   ⟨.nccTable1_2, 0xD7, true, 2⟩,
   ⟨.nccTable1_3, 0xD8, true, 3⟩,
   ⟨.nccTable1_4, 0xD9, true, 4⟩,
   ⟨.nccTable1_5, 0xDA, true, 5⟩,
   ⟨.nccTable1_6, 0xDB, true, 6⟩,
   ⟨.nccTable1_7, 0xDC, true, 7⟩,
   ⟨.nccTable1_8, 0xDD, true, 8⟩,
   ⟨.nccTable1_9, 0xDE, true, 9⟩,
   ⟨.nccTable1_10, 0xDF, true, 10⟩,
   ⟨.nccTable1_11, 0xE0, true, 11⟩]

/-- A counter register: its row and its count (40_register_access.md R184). -/
structure CounterRow where
  instr : RegAccess → Instr
  v2only : Bool
  count : Stats → BitVec 24

/-- The counter registers. -/
def counterRows : List CounterRow :=
  [⟨.fbiPixelsIn, false, fun k => k.pixelsIn⟩,
   ⟨.fbiChromaFail, false, fun k => k.chromaFail⟩,
   ⟨.fbiZfuncFail, false, fun k => k.zfuncFail⟩,
   ⟨.fbiAfuncFail, false, fun k => k.afuncFail⟩,
   ⟨.fbiPixelsOut, false, fun k => k.pixelsOut⟩,
   ⟨.fbiTrianglesOut, true, fun k => k.trianglesOut⟩]

/-- NCC table `new` is `old` with coefficient word `k` written and marked dirty (10_state.md R56). -/
def NccStored (old new : NccTable) (k : Nat) (data : Word) : Prop :=
  new.dirty = true ∧ new.texel = old.texel ∧
    (∀ j, j < 16 → new.yAt j = if j / 4 = k then data.extractLsb' (8 * (j % 4)) 8 else old.yAt j) ∧
    (∀ j, j < 4 → new.iAt j =
      if j + 4 = k then ⟨data.extractLsb' 18 9, data.extractLsb' 9 9, data.extractLsb' 0 9⟩ else old.iAt j) ∧
    (∀ j, j < 4 → new.qAt j =
      if j + 8 = k then ⟨data.extractLsb' 18 9, data.extractLsb' 9 9, data.extractLsb' 0 9⟩ else old.qAt j)

/-- TMU `new` is `old` after an NCC or palette write (40_register_access.md R179): a palette entry or a coefficient word of
one table with that table's dirty flag, and in both cases the TMU's dirty flag (log entry 22); nothing else changes. -/
def NccWritten (old new : Tmu) (row : NccRow) (data : Word) : Prop :=
  if row.table = false ∧ 4 ≤ row.word ∧ data.getLsbD 31 = true then
    ∃ p, new = { old with palette := p, dirty := true } ∧
      ∀ j, readTable 0 p j =
        if j = (data.extractLsb' 24 7).toNat * 2 + row.word % 2 then data.extractLsb' 0 24
        else readTable 0 old.palette j
  else if row.table = false then
    ∃ n, new = { old with ncc0 := n, dirty := true } ∧ NccStored old.ncc0 n row.word data
  else
    ∃ n, new = { old with ncc1 := n, dirty := true } ∧ NccStored old.ncc1 n row.word data

/-! ### Pixels, triangles and setup -/

/-- The byte address `a` is one of the two bytes of the pixel at raster `(x, scry)` of the surface at `base`. -/
def State.pixelByte (s : State) (base : Nat) (scry x : Int) (a : Nat) : Prop :=
  a = fbByteAddr s.cfg (2 * pixelAddr s base scry x) ∨ a = fbByteAddr s.cfg (2 * pixelAddr s base scry x + 1)

/-- The bytes that the fill or the write stage of pixel `(x, y)` may store to: those of its colour under the RGB mask and
of its aux value under the aux mask (43_pixel.md R351; 44_commands.md R362). -/
def State.pixelStores (s : State) (base : Option Nat) (x y : Int) (a : Nat) : Prop :=
  (∃ b, base = some b ∧ fbzRgbMask s.fbzMode = true ∧ s.pixelByte b (screenY s y) x a) ∨
    (∃ b, s.surf.aux = some b ∧ fbzAuxMask s.fbzMode = true ∧ s.pixelByte b (screenY s y) x a)

/-- The number of pixels a triangle covers (41_triangle.md R241). -/
def coveredPixels (f : FbiIter) : Nat := ((coverage f).map fun sp => (sp.xe - sp.xs).toNat).sum

/-- TMU `u`, when active, samples: its lodmin is below 8.0, else the unit upstream passes through it (42_texture.md
R255). -/
def State.samples (s : State) (u : TmuId) : Prop := tlLodMin (s.tLOD u) < 32

/-- TMU `u` asks for the V2 per-channel filter, which no pixel can sample (42_texture.md R254 (a)). -/
def State.separateFilter (s : State) (u : TmuId) : Prop := s.cfg.gen = .v2 ∧ tdSeparateRgba (s.tDetail u) = true

/-- TMU `u` selects a reserved texel format (42_texture.md R254 (c), R270). -/
def State.formatReserved (s : State) (u : TmuId) : Prop := reservedFormat s.cfg.gen (tmFormat (s.textureMode u)) = true

/-- No LOD up to the lodmax of TMU `u` selects level 9: lodmax is below 8.0, or below 9.0 with level 8 present
(42_texture.md R254 (d), R257). -/
def State.levelsExist (s : State) (u : TmuId) : Prop :=
  tlLodMax (s.tLOD u) < 32 ∨ (tlLodMax (s.tLOD u) < 36 ∧ bit (lodMask (s.tLOD u)) 8 = true)

/-- No pixel of an active unit can refuse (42_texture.md R254). -/
def State.textureReady (s : State) : Prop :=
  ∀ u ∈ activeTmus s.ntmu, s.samples u → ¬ s.separateFilter u ∧ ¬ s.formatReserved u ∧ s.levelsExist u

/-- The cache has the triangle's key or room for it (60_exceptions.md R404). -/
def State.cacheRoom (s : State) : Prop :=
  renderKey s s.ntmu ∈ s.cacheStates ∨ s.cacheStates.length < Config.cacheCapacity - s.cfg.cacheReserved

/-- The state TMU `u` is left in by the steps of a triangle up to the cache lookup: an active unit's start values are
adjusted if asked, its derived state and its selected NCC table are brought up to date, and its base LOD is set
(41_triangle.md R212, R231; 42_texture.md R250). -/
def State.preparedTmu (s : State) (u : TmuId) : Tmu :=
  if u ∈ activeTmus s.ntmu then
    let tm := s.textureMode u
    let moved := if cpSubpixelAdjust s.fbzColorPath then
        adjustTmu (subpixelShift s.fbi.vax) (subpixelShift s.fbi.vay) (s.tmu u) else s.tmu u
    let derived := if moved.dirty then
        deriveTmu (2 ^ texBits s.cfg u) tm (s.tLOD u) (s.tDetail u) (s.texBase u) moved else moved
    let table := derived.ncc (tmNccSelect tm)
    let ready := if isYiq (tmFormat tm) ∧ table.dirty then derived.setNcc (tmNccSelect tm) (regenerateNcc table)
      else derived
    { ready with lodbase := lodBase ready }
  else s.tmu u

/-- The state of a triangle before its cache lookup: the start values adjusted if asked, the active units prepared
(41_triangle.md R212). -/
def State.prepared (s : State) : State :=
  { s with fbi := if cpSubpixelAdjust s.fbzColorPath then adjustFbi s.fbi else s.fbi,
           tmu0 := s.preparedTmu .t0, tmu1 := s.preparedTmu .t1 }

/-- What a triangle drawn on the surface at `base` leaves: the start values and the TMUs prepared, the cache with the
triangle's key, the triangle counted, every covered pixel counted in, no register changed but a rotated stipple, and no
byte of the frame buffer outside its pixels changed (41_triangle.md R212; 43_pixel.md R300, R303, R351). -/
def State.TriangleRan (s : State) (base : Nat) (t : State) : Prop :=
  t = { s.prepared with
               cacheStates := if renderKey s s.ntmu ∈ s.cacheStates then s.cacheStates
                 else s.cacheStates ++ [renderKey s s.ntmu],
               stats := t.stats, fbram := t.fbram, regs := t.regs } ∧
    (∀ j, (j ≠ slotOf 0 0x50 ∨ stippleRotates s.fbzMode = false) → t.slot j = s.slot j) ∧
    t.stats.trianglesOut = s.stats.trianglesOut + 1 ∧
    t.stats.pixelsIn = s.stats.pixelsIn + BitVec.ofNat 24 (coveredPixels s.fbi) ∧
    ∀ a, (∀ sp ∈ coverage s.fbi, ∀ x, sp.xs ≤ x → x < sp.xe → ¬ s.pixelStores (some base) x sp.y a) →
      t.fbByte a = s.fbByte a

/-- The setup buffer after the vertex push of sDrawTriCMD (41_triangle.md R221). -/
def State.pushed (s : State) : SetupBuffer :=
  ⟨if setupFan s.sSetupMode then s.setup.v0 else s.setup.v1, s.setup.v2, s.currentVertex, s.setup.sverts + 1⟩

/-- The reciprocal of the area of a buffer's triangle (41_triangle.md R222). -/
def SetupBuffer.divisor (b : SetupBuffer) : Word := div32 f32One (setupArea b.v0 b.v1 b.v2)

/-- `v` is the truncation of the binary32 `f`, where that lies in the signed range of `w` bits (41_triangle.md R222). -/
def Truncates {w : Nat} (f : Word) (v : BitVec w) : Prop :=
  ∀ i : Int, trunc32 f = some i → -((2 ^ (w - 1) : Nat) : Int) ≤ i → i < ((2 ^ (w - 1) : Nat) : Int) → v.toInt = i

/-- `start`, `dx` and `dy` are `Param(q, scale)` of the buffer's triangle, each where its conversion is in range
(41_triangle.md R222). -/
def SetupBuffer.ParamIs (buf : SetupBuffer) (q : SetupVertex → Word) {w : Nat} (scale : Word) (start dx dy : BitVec w) :
    Prop :=
  let p0 := buf.v0
  let p1 := buf.v1
  let p2 := buf.v2
  let area := sub32 (mul32 (sub32 p0.x p1.x) (sub32 p0.y p2.y)) (mul32 (sub32 p0.x p2.x) (sub32 p0.y p1.y))
  let factor := mul32 (div32 0x3F800000 area) scale
  let q01 := sub32 (q p0) (q p1)
  let q02 := sub32 (q p0) (q p2)
  Truncates (mul32 (q p0) scale) start ∧
    Truncates (mul32 (sub32 (mul32 q01 (sub32 p0.y p2.y)) (mul32 q02 (sub32 p0.y p1.y))) factor) dx ∧
    Truncates (mul32 (sub32 (mul32 q02 (sub32 p0.x p1.x)) (mul32 q01 (sub32 p0.x p2.x))) factor) dy

/-- `Param(q, 4096.0)` and `Param(q, 2^32)`. -/
def SetupBuffer.Param12 (buf : SetupBuffer) (q : SetupVertex → Word) (v : Grad32) : Prop :=
  buf.ParamIs q 0x45800000 v.start v.dx v.dy
def SetupBuffer.Param32 (buf : SetupBuffer) (q : SetupVertex → Word) (v : Grad64) : Prop :=
  buf.ParamIs q 0x4F800000 v.start v.dx v.dy

/-- The iterators that sSetupMode selects hold the buffer's parameters (41_triangle.md R222). -/
def State.ParamsSet (t : State) (mode : Word) (buf : SetupBuffer) : Prop :=
  (mode.getLsbD 0 = true → buf.Param12 (·.r) t.fbi.r ∧ buf.Param12 (·.g) t.fbi.g ∧ buf.Param12 (·.b) t.fbi.b) ∧
  (mode.getLsbD 1 = true → buf.Param12 (·.a) t.fbi.a) ∧
  (mode.getLsbD 2 = true → buf.Param12 (·.z) t.fbi.z) ∧
  (mode.getLsbD 3 = true → buf.Param32 (·.wb) t.fbi.w ∧
    (mode.getLsbD 4 = false → buf.Param32 (·.wb) t.tmu0.w ∧ (mode.getLsbD 6 = false → buf.Param32 (·.wb) t.tmu1.w))) ∧
  (mode.getLsbD 4 = true → buf.Param32 (·.w0) t.tmu0.w ∧ (mode.getLsbD 6 = false → buf.Param32 (·.w0) t.tmu1.w)) ∧
  (mode.getLsbD 5 = true → buf.Param32 (·.s0) t.tmu0.s ∧ buf.Param32 (·.t0) t.tmu0.t ∧
    (mode.getLsbD 7 = false → buf.Param32 (·.s0) t.tmu1.s ∧ buf.Param32 (·.t0) t.tmu1.t)) ∧
  (mode.getLsbD 6 = true → buf.Param32 (·.w1) t.tmu1.w) ∧
  (mode.getLsbD 7 = true → buf.Param32 (·.s1) t.tmu1.s ∧ buf.Param32 (·.t1) t.tmu1.t)

/-- The vertices hold the buffer's positions times 16.0, truncated, each where its conversion is in range (41_triangle.md
R222). -/
def State.PositionsSet (t : State) (buf : SetupBuffer) : Prop :=
  ∀ p ∈ [(buf.v0.x, t.fbi.vax), (buf.v0.y, t.fbi.vay), (buf.v1.x, t.fbi.vbx), (buf.v1.y, t.fbi.vby),
    (buf.v2.x, t.fbi.vcx), (buf.v2.y, t.fbi.vcy)], Truncates (mul32 p.1 0x41800000) p.2

/-- The state in which sDrawTriCMD's triangle is set up: the command's store and the vertex push are done, the vertex
positions and the selected parameters are stored (41_triangle.md R221, R222). -/
def State.setupDone (s : State) (regs : Table Word) : State :=
  setupParams s.sSetupMode (setupGeometry s.pushed.v0 s.pushed.v1 s.pushed.v2)
    (setupPositions { s with regs := regs, setup := s.pushed })

/-! ### Fast fill and the linear frame buffer -/

/-- The columns and the rows of the clip rectangle, 0 for an empty one (44_commands.md R361). -/
def State.fillWidth (s : State) : Nat := (s.clipRight - s.clipLeft).toNat
def State.fillHeight (s : State) : Nat := (s.clipHighY - s.clipLowY).toNat

/-- The clip rectangle's pixels on the surface at `base` are distinct words inside the frame buffer. -/
def State.fillFits (s : State) (base : Nat) : Prop :=
  s.clipRight ≤ (s.surf.rowpixels : Int) ∧
    ∀ y, s.clipLowY ≤ y → y < s.clipHighY →
      (base : Int) + 2 * (screenY s y * (s.surf.rowpixels : Int) + s.clipRight) ≤ ((2 ^ s.cfg.fbBits : Nat) : Int)

/-- The pixel `(x, y)` belongs to the clip rectangle (44_commands.md R361). -/
def State.inFill (s : State) (x y : Int) : Prop :=
  s.clipLeft ≤ x ∧ x < s.clipRight ∧ s.clipLowY ≤ y ∧ y < s.clipHighY

/-- The byte `a` belongs to pixel `(x, y)` of the clip rectangle on a surface that a fast fill stores to. -/
def State.fillStores (s : State) (a : Nat) : Prop := ∃ x y, s.inFill x y ∧ s.pixelStores s.drawOffset x y a

/-- The surfaces a fast fill stores to: colour and aux, each under its mask (44_commands.md R362). -/
def State.fillColor (s : State) : Option Nat := if fbzRgbMask s.fbzMode then s.drawOffset else none
def State.fillAux (s : State) : Option Nat := if fbzAuxMask s.fbzMode then s.surf.aux else none

/-- The clip rectangle's pixels on the surface at `base` share no word with those on the surface at `aux`. -/
def State.fillApart (s : State) (base aux : Nat) : Prop :=
  ∀ x y x' y', s.inFill x y → s.inFill x' y' →
    pixelAddr s base (screenY s y) x ≠ pixelAddr s aux (screenY s y') x'

/-- The screen row of LFB row `y` under the path lfbMode selects (44_commands.md R383). -/
def State.lfbRow (s : State) (y : Int) : Int := if lfbPipeline s.lfbMode then screenY s y else lfbScreenY s y

/-- The byte `a` belongs to a pixel of LFB word `l`, on the surface at `base` or on the aux surface. -/
def State.lfbStores (s : State) (base : Nat) (l : BitVec 20) (a : Nat) : Prop :=
  ∃ k ∈ lfbPixels (lfbWriteFormat s.lfbMode),
    let two := lfbTwoPixels (lfbWriteFormat s.lfbMode)
    let scry := s.lfbRow (lfbY two l)
    s.pixelByte base scry (lfbX two l k) a ∨ ∃ aux, s.surf.aux = some aux ∧ s.pixelByte aux scry (lfbX two l k) a

/-- The pixel at raster `(x, scry)` is in range for the surface at `base` (44_commands.md R383). -/
def State.rawInRange (s : State) (base : Nat) (scry x : Int) : Prop :=
  2 * (scry * (s.surf.rowpixels : Int) + x) + 2 ≤ ((2 ^ s.cfg.fbBits - base : Nat) : Int)

/-- The surface that a raw LFB pixel's colour goes to: the selected one, when the format carries RGB and the pixel is in
range (44_commands.md R381, R384). -/
def State.rawColorAt (s : State) (base : Nat) (scry x : Int) (b : Nat) : Prop :=
  lfbWriteFormat s.lfbMode ≠ 15 ∧ b = base ∧ s.rawInRange b scry x

/-- The aux surface that a raw LFB pixel's alpha or depth goes to: when the format carries what the aux surface holds and the
pixel is in range (44_commands.md R381, R384). -/
def State.rawAuxAt (s : State) (scry x : Int) (b : Nat) : Prop :=
  s.surf.aux = some b ∧ s.rawInRange b scry x ∧
    lfbWriteFormat s.lfbMode ∈ if fbzAlphaPlanes s.fbzMode then [2, 5, 14] else [12, 13, 14, 15]

/-- The colours and the aux values of raw LFB word `l` go to different bytes. -/
def State.rawApart (s : State) (base : Nat) (l : BitVec 20) : Prop :=
  let format := lfbWriteFormat s.lfbMode
  let scry := lfbScreenY s (lfbY (lfbTwoPixels format) l)
  let x (k : Nat) : Int := lfbX (lfbTwoPixels format) l k
  ∀ k ∈ lfbPixels format, ∀ k' ∈ lfbPixels format, ∀ b c a, s.rawColorAt base scry (x k) b →
    s.rawAuxAt scry (x k') c → s.pixelByte b scry (x k) a → ¬ s.pixelByte c scry (x k') a

/-! ### Rights and stops -/

/-- Register numbers with the same R and W flags: first, last, readable and writable on V1, readable and writable on V2
(10_state.md R30). A number in no range has no flag. -/
structure AccessRange where
  first : Nat
  last : Nat
  r1 : Bool
  w1 : Bool
  r2 : Bool
  w2 : Bool

/-- The flags columns of 10_state.md R30. -/
def accessRanges : List AccessRange :=
  [⟨0x00, 0x00, true, false, true, false⟩,
   ⟨0x01, 0x01, false, false, true, true⟩,
   ⟨0x02, 0x20, false, true, false, true⟩,
   ⟨0x22, 0x40, false, true, false, true⟩,
   ⟨0x41, 0x4A, true, true, true, true⟩,
   ⟨0x4B, 0x4D, false, true, true, true⟩,
   ⟨0x4E, 0x4E, false, false, true, true⟩,
   ⟨0x4F, 0x4F, false, false, false, true⟩,
   ⟨0x50, 0x52, true, true, true, true⟩,
   ⟨0x53, 0x57, true, false, true, false⟩,
   ⟨0x58, 0x77, false, true, false, true⟩,
   ⟨0x80, 0x80, true, true, true, true⟩,
   ⟨0x81, 0x81, true, false, true, false⟩,
   ⟨0x82, 0x87, true, true, true, true⟩,
   ⟨0x88, 0x8C, false, true, false, true⟩,
   ⟨0x8D, 0x8F, false, false, false, true⟩,
   ⟨0x90, 0x90, false, false, true, false⟩,
   ⟨0x91, 0x93, false, false, true, true⟩,
   ⟨0x96, 0x97, false, false, true, false⟩,
   ⟨0x98, 0xA9, false, false, false, true⟩,
   ⟨0xC0, 0xE0, false, true, false, true⟩]

/-- A write of a command that may draw a triangle (41_triangle.md R210, R211, R221). -/
def TriangleWrite (i : Instr) : Prop :=
  ∃ chipsel data, i = .triangleCMD (.write chipsel data) ∨ i = .ftriangleCMD (.write chipsel data) ∨
    i = .sDrawTriCMD (.write chipsel data)

end Sys2Proof.Machine
end

