-- ==== Sys2Proof/Certificates/Slice0/Obligations.lean ====
section
/-! DEFINITION. The statements for the provers, from the numbered rules of spec/ (the list with their cites is
OBLIGATIONS.json). -/

section

open Sys2Proof Sys2Proof.Machine

/-! ### Encoding -/

/-- Decoding the encoding of a well-formed transaction gives it back, with the alternate map on or off. -/
def Obligations.DecodeOfEncode : Prop :=
  ∀ (remap : Bool) (i : Instr), i.wellFormed = true → decode remap (encode i) = .ok i

/-- Requests written out from R131, R135, R136 and R149 decode to the transactions they stand for. -/
def Obligations.SpecWordsDecode : Prop :=
  decode false ⟨.wr, .full, 0x000080, 0x80000000⟩ = .ok (.triangleCMD (.write 0x0 0x80000000)) ∧
  decode false ⟨.wr, .full, 0x000B04, 0x5⟩ = .ok (.tLOD (.write 0x2 0x5)) ∧
  decode false ⟨.rd, .full, 0x000110, 0⟩ = .ok (.fbzMode .read) ∧
  decode false ⟨.wr, .full, 0x0002D4, 0x1⟩ = .ok (.blt 0xB5 (.write 0x0 0x1)) ∧
  decode false ⟨.wr, .full, 0x40100C, 0x001FF800⟩ = .ok (.lfbWr 0x00403 0x001FF800) ∧
  decode false ⟨.rd, .full, 0x40100C, 0⟩ = .ok (.lfbRd 0x00403) ∧
  decode false ⟨.wr, .full, 0x800208, 0x44332211⟩ = .ok (.texWr 0 0 1 2 0x44332211) ∧
  decode false ⟨.rd, .full, 0xA40208, 0⟩ = .ok (.texRd 1 2 1 2) ∧
  decode false ⟨.wr, .full, 0x000084, 0x7⟩ = .error (.reserved 0x21 (.write 0x0 0x7)) ∧
  decode true ⟨.wr, .full, 0x200024, 0x7⟩ = .ok (.dRdX (.write 0x0 0x7))

/-- A[1:0] is never decoded, A[20:14] is not decoded in the register space, and a register read ignores the chip-select
field (R130, R131). -/
def Obligations.IgnoredAddressBits : Prop :=
  ∀ (remap : Bool) (k : BusKind) (z : BusSize) (d : Word) (a b : BitVec 24),
    (a &&& 0xFFFFFC = b &&& 0xFFFFFC → decode remap ⟨k, z, a, d⟩ = decode remap ⟨k, z, b, d⟩) ∧
    (a &&& 0xC00000 = 0 → a &&& 0xE03FFC = b &&& 0xE03FFC → decode remap ⟨k, z, a, d⟩ = decode remap ⟨k, z, b, d⟩) ∧
    (a &&& 0xC00000 = 0 → a &&& 0xE003FC = b &&& 0xE003FC →
      decode remap ⟨.rd, z, a, d⟩ = decode remap ⟨.rd, z, b, d⟩)

/-- The alternate map replaces the register number exactly when it is enabled, A[21] is set and the number is below 0x40
(R133): the request then decodes as the one that names the alias with A[21] clear. -/
def Obligations.AlternateMapRedirects : Prop :=
  ∀ (k : BusKind) (d : Word) (a : BitVec 24), a &&& 0xC00000 = 0 →
    let n : RegNum := a.extractLsb' 2 8
    let redirected : BitVec 24 :=
      0#3 ++ a.extractLsb' 14 7 ++ a.extractLsb' 10 4 ++ aliasTable.getD n.toNat n ++ a.extractLsb' 0 2
    decode true ⟨k, .full, a, d⟩ =
      if a.getLsbD 21 = true ∧ n.toNat < 0x40 then decode false ⟨k, .full, redirected, d⟩
      else decode false ⟨k, .full, a, d⟩

/-! ### The access paths -/

/-- The R and W flags of every register number are those of R30, in both generations. On V2 the flags are the open parameter
ACCESS_V2; that they are its reference, the V2 column of R30, is the model's choice (log entry 9). -/
def Obligations.AccessFlagsMatchTable : Prop :=
  ∀ n : RegNum,
    let row := accessRanges.find? fun r => decide (r.first ≤ n.toNat) && decide (n.toNat ≤ r.last)
    (accessFlags .v1 n).r = row.any (·.r1) ∧ (accessFlags .v1 n).w = row.any (·.w1) ∧
      (accessFlags .v2 n).r = row.any (·.r2) ∧ (accessFlags .v2 n).w = row.any (·.w2)

/-- A write to a register whose flags lack W appends WriteNotAllowed and changes nothing else, reserved numbers included
(R171). -/
def Obligations.WriteWithoutPermissionLogged : Prop :=
  ∀ (n : RegNum) (cs : ChipSet) (d : Word) (s : State),
    undescribed s.cfg.gen n = false → (accessFlags s.cfg.gen n).w = false →
      (∀ i : Instr, encode i = regRequest n (.write cs d) →
        exec i s = .next { s with log := s.log ++ [.writeNotAllowed n d] }) ∧
      (∀ q : BusRequest, decode s.remap q = .error (.reserved n (.write cs d)) →
        runRequest q s = .next { s with log := s.log ++ [.writeNotAllowed n d] })

/-- A write whose effective chip set is empty appends ChipDisabled and changes nothing else (R172). -/
def Obligations.EmptyChipSetLogged : Prop :=
  ∀ (n : RegNum) (cs : ChipSet) (d : Word) (s : State) (i : Instr), encode i = regRequest n (.write cs d) →
    undescribed s.cfg.gen n = false → (accessFlags s.cfg.gen n).w = true →
      (if cs = 0#4 then 0xF#4 else cs) &&& s.cfg.chipmask = 0#4 →
        exec i s = .next { s with log := s.log ++ [.chipDisabled n] }

/-- On V2 a write to a command-FIFO or blitter register refuses; on V1 the number is reserved and the write is logged
(R173). -/
def Obligations.UndescribedWritesRefused : Prop :=
  ∀ (i : Instr) (n : RegNum) (cs : ChipSet) (d : Word) (s : State),
    (∃ row ∈ undescribedRows, i = row.instr (.write cs d) ∧ n = row.num) ∨
      (i = .blt n (.write cs d) ∧ n.extractLsb' 4 4 = 0xB#4) →
    exec i s = match s.cfg.gen with
      | .v2 => .refused (.undescribedRegister n)
      | .v1 => .next { s with log := s.log ++ [.writeNotAllowed n d] }

/-- A read of a register whose flags lack R appends ReadNotAllowed and returns all ones, reserved numbers included (R180).
For the V2 command-FIFO and blitter numbers, whose writes R173 refuses and of whose reads it says nothing, this is the
model's reading (log entry 19). -/
def Obligations.ReadWithoutPermissionLogged : Prop :=
  ∀ (n : RegNum) (s : State), (accessFlags s.cfg.gen n).r = false →
    (∀ i : Instr, encode i = regRequest n .read →
      exec i s = .next { s with log := s.log ++ [.readNotAllowed n], readData := 0xFFFFFFFF }) ∧
    (∀ q : BusRequest, decode s.remap q = .error (.reserved n .read) →
      runRequest q s = .next { s with log := s.log ++ [.readNotAllowed n], readData := 0xFFFFFFFF })

/-- Every read completes and changes nothing but the read data, and where it is not allowed the log, by one event with all
ones returned (R180, R401). That a V2 read of a command-FIFO or blitter number completes so is the model's reading (log
entry 19). -/
def Obligations.ReadsChangeNothingElse : Prop :=
  ∀ (i : Instr) (s : State), (encode i).kind = .rd →
    (∃ v, exec i s = .next { s with readData := v }) ∨
      ∃ e, exec i s = .next { s with readData := 0xFFFFFFFF, log := s.log ++ [e] }

/-- A transaction that changes the log appends one event and nothing else changes, but that a read returns all ones (R401;
for a texture write with a bad LOD that is log entry 21). -/
def Obligations.LoggedTransactionsChangeNothingElse : Prop :=
  ∀ (i : Instr) (s t : State), exec i s = .next t → t.log ≠ s.log →
    ∃ e, t = { s with log := s.log ++ [e],
                      readData := if (encode i).kind = .rd then 0xFFFFFFFF else s.readData }

/-- The only fault of a transaction is CacheFull at a triangle that has a draw surface, in a state with fatal set, and each
refusal comes from its point of R405: a V2 write of a command-FIFO or blitter register, a V2 texture write to a unit whose
tdirect_write is set, or a triangle with an active unit that samples and asks for the V2 separate filter, selects a
reserved format, or has a lodmax that reaches level 9. -/
def Obligations.StopsAreListed : Prop :=
  ∀ (i : Instr) (s : State), s.Inv → match exec i s with
    | .next _ => True
    | .fault r => TriangleWrite i ∧ s.drawOffset ≠ none ∧ ∃ left, r = .cacheFull left ∧ left.fatal = true
    | .refused (.undescribedRegister n) =>
      s.cfg.gen = .v2 ∧ undescribed .v2 n = true ∧ ∃ cs d, encode i = regRequest n (.write cs d)
    | .refused .texDirectWrite =>
      s.cfg.gen = .v2 ∧ ∃ unit lod row sword data u, i = .texWr unit lod row sword data ∧
        ((unit = 0 ∧ u = .t0) ∨ (unit = 1 ∧ u = .t1)) ∧ tlDirectWrite (s.tLOD u) = true
    | .refused .separateRgbaFilter => TriangleWrite i ∧ ∃ u ∈ activeTmus s.ntmu, s.samples u ∧ s.separateFilter u
    | .refused .reservedTexelFormat => TriangleWrite i ∧ ∃ u ∈ activeTmus s.ntmu, s.samples u ∧ s.formatReserved u
    | .refused .noSuchLevel => TriangleWrite i ∧ ∃ u ∈ activeTmus s.ntmu, s.samples u ∧ ¬ s.levelsExist u
    | .refused .narrowRequest => False
    | .refused (.notModelled _) => False

/-- A register write that leaves a TMU out of its chip set leaves that TMU and its registers unchanged; one that leaves
out the FBI leaves the FBI's iterators and registers unchanged (R444). Not for the commands that draw, nor, for the FBI,
for sARGB, whose unpacking does not ask for the chip (log entry 18). The fog table, statistics, layout, buffers and events
of the FBI may change without its chip, because their handlers do not ask for it (log entry 17). -/
def Obligations.ChipSelectIsolates : Prop :=
  ∀ (i : Instr) (n : RegNum) (cs : ChipSet) (d : Word) (s t : State), encode i = regRequest n (.write cs d) →
    ¬ TriangleWrite i → exec i s = .next t →
      (∀ u : TmuId, (effectiveChips cs s.cfg.chipmask).getLsbD (chipOf u) = false →
        t.tmu u = s.tmu u ∧ ∀ m, t.tmuReg u m = s.tmuReg u m) ∧
      ((effectiveChips cs s.cfg.chipmask).getLsbD 0 = false → n ≠ 0x9B →
        t.fbi = s.fbi ∧ ∀ m, t.fbiReg m = s.fbiReg m)

/-! ### Parameter registers -/

/-- A vertex write stores the word and sets its 12.4 coordinate when the chip set has the FBI (R140; R145 for the floating
forms). -/
def Obligations.VertexWritesSetCoordinates : Prop :=
  ∀ row ∈ vertexRows, ∀ (cs : ChipSet) (d : Word) (s : State), tableWf 0 s.regs = true →
    effectiveChips cs s.cfg.chipmask ≠ 0#4 →
      let chips := effectiveChips cs s.cfg.chipmask
      ∃ regs, SlotsStored s.regs regs chips row.num d ∧
        exec (row.instr (.write cs d)) s =
          .next { s with regs := regs, fbi := if chips.getLsbD 0 then row.put (row.conv d) s.fbi else s.fbi }

/-- A colour write stores the word and sets its 12.12 iterator when the chip set has the FBI (R141; R145). -/
def Obligations.ColorWritesSetIterators : Prop :=
  ∀ row ∈ colorRows, ∀ (cs : ChipSet) (d : Word) (s : State), tableWf 0 s.regs = true →
    effectiveChips cs s.cfg.chipmask ≠ 0#4 →
      let chips := effectiveChips cs s.cfg.chipmask
      ∃ regs, SlotsStored s.regs regs chips row.num d ∧
        exec (row.instr (.write cs d)) s =
          .next { s with regs := regs, fbi := if chips.getLsbD 0 then row.put (row.conv d) s.fbi else s.fbi }

/-- A depth write stores the word and sets its 20.12 iterator when the chip set has the FBI (R142; R145). -/
def Obligations.DepthWritesSetIterators : Prop :=
  ∀ row ∈ depthRows, ∀ (cs : ChipSet) (d : Word) (s : State), tableWf 0 s.regs = true →
    effectiveChips cs s.cfg.chipmask ≠ 0#4 →
      let chips := effectiveChips cs s.cfg.chipmask
      ∃ regs, SlotsStored s.regs regs chips row.num d ∧
        exec (row.instr (.write cs d)) s =
          .next { s with regs := regs, fbi := if chips.getLsbD 0 then row.put (row.conv d) s.fbi else s.fbi }

/-- An S or T write stores the word and sets the iterator of every TMU of the chip set (R143; R145). -/
def Obligations.CoordWritesSetTmus : Prop :=
  ∀ row ∈ coordRows, ∀ (cs : ChipSet) (d : Word) (s : State), tableWf 0 s.regs = true →
    effectiveChips cs s.cfg.chipmask ≠ 0#4 →
      let chips := effectiveChips cs s.cfg.chipmask
      ∃ regs, SlotsStored s.regs regs chips row.num d ∧
        exec (row.instr (.write cs d)) s =
          .next { s with regs := regs,
                         tmu0 := if chips.getLsbD 1 then row.put (row.conv d) s.tmu0 else s.tmu0,
                         tmu1 := if chips.getLsbD 2 then row.put (row.conv d) s.tmu1 else s.tmu1 }

/-- A W write stores the word and sets the W iterator of the FBI and of every TMU of the chip set (R144; R145). -/
def Obligations.WWritesSetAllUnits : Prop :=
  ∀ row ∈ wRows, ∀ (cs : ChipSet) (d : Word) (s : State), tableWf 0 s.regs = true →
    effectiveChips cs s.cfg.chipmask ≠ 0#4 →
      let chips := effectiveChips cs s.cfg.chipmask
      ∃ regs, SlotsStored s.regs regs chips row.num d ∧
        exec (row.instr (.write cs d)) s =
          .next { s with regs := regs,
                         fbi := if chips.getLsbD 0 then row.putFbi (row.conv d) s.fbi else s.fbi,
                         tmu0 := if chips.getLsbD 1 then row.putTmu (row.conv d) s.tmu0 else s.tmu0,
                         tmu1 := if chips.getLsbD 2 then row.putTmu (row.conv d) s.tmu1 else s.tmu1 }

/-- F2I of both widths (R145): a value in range is truncated toward zero in magnitude, exponent 0 gives 0, a shifted magnitude
wraps at the width before its sign is applied, and an exponent too large gives the saturated value of the sign. -/
def Obligations.FloatConversionTruncates : Prop :=
  ∀ (w : Nat) (d : Word) (k : Nat), w = 32 ∨ w = 64 →
    let exp := (d.extractLsb' 23 8).toNat
    let m := (d.extractLsb' 0 23).toNat + 2 ^ 23
    let sign : Int := if d.getLsbD 31 then -1 else 1
    (exp + k < 150 → (f2i w d k).toInt = sign * ((m / 2 ^ (150 - k - exp) : Nat) : Int)) ∧
    (150 ≤ exp + k → m * 2 ^ (exp + k - 150) < 2 ^ (w - 1) →
      (f2i w d k).toInt = sign * ((m * 2 ^ (exp + k - 150) : Nat) : Int)) ∧
    (150 ≤ exp + k → exp + k < 150 + w →
      f2i w d k = BitVec.ofInt w (sign * ((m * 2 ^ (exp + k - 150) % 2 ^ w : Nat) : Int))) ∧
    (150 + w ≤ exp + k → (f2i w d k).toInt = sign * ((2 ^ (w - 1) - 1 : Nat) : Int)) ∧
    (exp = 0 → k < 127 → (f2i w d k).toInt = 0)

/-! ### Stored registers -/

/-- A store-only register takes the word in every slot of the chip set and nothing else changes (R188). -/
def Obligations.StoreOnlyWrites : Prop :=
  ∀ row ∈ storeOnlyRows, ∀ (cs : ChipSet) (d : Word) (s : State), tableWf 0 s.regs = true → row.Open s cs →
    ∃ regs, SlotsStored s.regs regs (effectiveChips cs s.cfg.chipmask) row.num d ∧
      exec (row.instr (.write cs d)) s = .next { s with regs := regs }

/-- A fogTable write sets two entries of the fog table (R187). -/
def Obligations.FogTableWrites : Prop :=
  ∀ row ∈ fogRowsByIndex, ∀ (cs : ChipSet) (d : Word) (s : State), tableWf 0 s.regs = true →
    tableWf 0 s.fogDelta = true → tableWf 0 s.fogBlend = true → effectiveChips cs s.cfg.chipmask ≠ 0#4 →
      ∃ regs delta blend, SlotsStored s.regs regs (effectiveChips cs s.cfg.chipmask) row.num d ∧
        exec (row.instr (.write cs d)) s = .next { s with regs := regs, fogDelta := delta, fogBlend := blend } ∧
        (∀ j, readTable 0 delta j =
          if j = 2 * row.index then d.extractLsb' 0 8
          else if j = 2 * row.index + 1 then d.extractLsb' 16 8 else readTable 0 s.fogDelta j) ∧
        (∀ j, readTable 0 blend j =
          if j = 2 * row.index then d.extractLsb' 8 8
          else if j = 2 * row.index + 1 then d.extractLsb' 24 8 else readTable 0 s.fogBlend j)

/-- A setup-vertex data register is stored and changes no setup vertex (R189, all but sARGB). -/
def Obligations.SetupDataWrites : Prop :=
  ∀ row ∈ setupDataRows, ∀ (cs : ChipSet) (d : Word) (s : State), tableWf 0 s.regs = true → row.Open s cs →
    ∃ regs, SlotsStored s.regs regs (effectiveChips cs s.cfg.chipmask) row.num d ∧
      exec (row.instr (.write cs d)) s = .next { s with regs := regs }

/-- An sARGB write stores the packed colour and sets sAlpha, sRed, sGreen and sBlue to its bytes as binary32 (R146, R189;
that the FBI slots are set for every chip set is log entry 18). -/
def Obligations.PackedColorUnpacks : Prop :=
  ∀ (cs : ChipSet) (d : Word) (s : State), tableWf 0 s.regs = true → s.cfg.gen = .v2 →
    effectiveChips cs s.cfg.chipmask ≠ 0#4 →
      ∃ regs, tableWf 0 regs = true ∧ exec (.sARGB (.write cs d)) s = .next { s with regs := regs } ∧
        ∀ c, c < 4 → ∀ m : RegNum, readTable 0 regs (slotOf c m) =
          if c = 0 ∧ m = 0x9F then f32OfByte (d.extractLsb' 24 8)
          else if c = 0 ∧ m = 0x9C then f32OfByte (d.extractLsb' 16 8)
          else if c = 0 ∧ m = 0x9D then f32OfByte (d.extractLsb' 8 8)
          else if c = 0 ∧ m = 0x9E then f32OfByte (d.extractLsb' 0 8)
          else if m = 0x9B ∧ (effectiveChips cs s.cfg.chipmask).getLsbD c = true then d
          else readTable 0 s.regs (slotOf c m)

/-- An init-register write is logged and dropped without INIT_ENABLE; otherwise fbiInit0 and fbiInit4 are stored only (R432;
log entry 44), and a write of any other is stored, the layout is that of the new registers, and the buffer indices return to
0 and 1 when one names a NONE surface (R176). -/
def Obligations.InitRegisterWrites : Prop :=
  ∀ row ∈ initRegRows, ∀ (cs : ChipSet) (d : Word) (s : State), tableWf 0 s.regs = true → row.Open s cs →
    (s.cfg.initEnable = false →
      exec (row.instr (.write cs d)) s = .next { s with log := s.log ++ [.initDisabled row.num] }) ∧
    (s.cfg.initEnable = true →
      ∃ regs, SlotsStored s.regs regs (effectiveChips cs s.cfg.chipmask) row.num d ∧
        let init (n : RegNum) : Word := readTable 0 regs (slotOf 0 n)
        let surf := fbLayout s.cfg.gen (2 ^ s.cfg.fbBits) (init 0x85) (init 0x86) (init 0x87) (init 0x91)
        exec (row.instr (.write cs d)) s =
          if row.num = 0x84 ∨ row.num = 0x80 then .next { s with regs := regs }
          else .next { s with regs := regs, surf := surf,
                              swap := if surf.rgb s.swap.front = none ∨ surf.rgb s.swap.back = none then
                                  { s.swap with front := 0, back := 1 } else s.swap })

/-- A video-timing write is stored and emits TimingChanged, and nothing else changes (R177). For hBorder and vBorder, whose rows
of R30 say stored only, the event is the model's reading (log entry 37). -/
def Obligations.VideoTimingWrites : Prop :=
  ∀ row ∈ timingRows, ∀ (cs : ChipSet) (d : Word) (s : State), tableWf 0 s.regs = true → row.Open s cs →
    ∃ regs, SlotsStored s.regs regs (effectiveChips cs s.cfg.chipmask) row.num d ∧
      exec (row.instr (.write cs d)) s =
        .next { s with regs := regs, hostEvents := s.hostEvents ++ [.timingChanged row.num d] }

/-- A TMU register write is stored and marks every TMU of the chip set dirty, and nothing else changes (R178). -/
def Obligations.TmuRegisterWrites : Prop :=
  ∀ row ∈ tmuRegRows, ∀ (cs : ChipSet) (d : Word) (s : State), tableWf 0 s.regs = true → row.Open s cs →
    let chips := effectiveChips cs s.cfg.chipmask
    ∃ regs, SlotsStored s.regs regs chips row.num d ∧
      exec (row.instr (.write cs d)) s =
        .next { s with regs := regs,
                       tmu0 := if chips.getLsbD 1 then { s.tmu0 with dirty := true } else s.tmu0,
                       tmu1 := if chips.getLsbD 2 then { s.tmu1 with dirty := true } else s.tmu1 }

/-- An NCC register write sets a palette entry, or a coefficient word with the dirty flag of its table, and the dirty flag of
the unit, in every TMU of the chip set, and nothing else changes (R179, R117). That a palette write marks the unit follows
R179 where R272 says otherwise (log entry 22). -/
def Obligations.NccRegisterWrites : Prop :=
  ∀ row ∈ nccRows, ∀ (cs : ChipSet) (d : Word) (s : State), tableWf 0 s.regs = true →
    s.tmu0.sound s.cfg.texBits0 = true → s.tmu1.sound s.cfg.texBits1 = true →
    effectiveChips cs s.cfg.chipmask ≠ 0#4 →
      let chips := effectiveChips cs s.cfg.chipmask
      ∃ regs tmu0 tmu1, SlotsStored s.regs regs chips row.num d ∧
        exec (row.instr (.write cs d)) s = .next { s with regs := regs, tmu0 := tmu0, tmu1 := tmu1 } ∧
        (if chips.getLsbD 1 then NccWritten s.tmu0 tmu0 row d else tmu0 = s.tmu0) ∧
        (if chips.getLsbD 2 then NccWritten s.tmu1 tmu1 row d else tmu1 = s.tmu1)

/-! ### Reads -/

/-- A plain readable register reads as its FBI slot (R181). -/
def Obligations.PlainRegisterReads : Prop :=
  ∀ row ∈ plainReadRows, ∀ s : State, (row.v2only = true → s.cfg.gen = .v2) →
    exec (row.instr .read) s = .next { s with readData := readTable 0 s.regs row.num.toNat }

/-- status reads as an idle engine with the vblank state and the front buffer (R183). -/
def Obligations.StatusReads : Prop :=
  ∀ s : State,
    exec (.status .read) s =
      .next { s with readData := 0x3F#32 ||| ((if s.display.vblank then 1#32 else 0#32) <<< 6) |||
                (BitVec.ofNat 32 s.swap.front.val <<< 10) ||| (0xFFFF#32 <<< 12) }

/-- A counter reads as its 24 bits, zero-extended (R184). -/
def Obligations.CounterReads : Prop :=
  ∀ row ∈ counterRows, ∀ s : State, (row.v2only = true → s.cfg.gen = .v2) →
    exec (row.instr .read) s = .next { s with readData := (row.count s.stats).setWidth 32 &&& 0x00FFFFFF#32 }

/-- vRetrace and, on V2, hvRetrace and fbiSwapHistory read as the display position and the swap history (R185, R186). -/
def Obligations.RetraceAndHistoryReads : Prop :=
  ∀ s : State,
    exec (.vRetrace .read) s = .next { s with readData := s.display.vpos &&& 0x1FFF } ∧
    (s.cfg.gen = .v2 →
      exec (.hvRetrace .read) s =
        .next { s with readData := ((s.display.hpos &&& 0x7FF) <<< 16) ||| (s.display.vpos &&& 0x1FFF) } ∧
      exec (.fbiSwapHistory .read) s = .next { s with readData := s.swap.history })

/-! ### Commands -/

/-- nopCMD clears the pixel counters on data[0] and the triangle count on data[1], and nothing else changes but its own
store (R360). -/
def Obligations.NopClearsCounters : Prop :=
  ∀ (cs : ChipSet) (d : Word) (s : State), tableWf 0 s.regs = true → effectiveChips cs s.cfg.chipmask ≠ 0#4 →
    let k := s.stats
    ∃ regs, SlotsStored s.regs regs (effectiveChips cs s.cfg.chipmask) 0x48 d ∧
      exec (.nopCMD (.write cs d)) s =
        .next { s with
          regs := regs
          stats := ⟨if d.getLsbD 0 then 0 else k.pixelsIn, if d.getLsbD 0 then 0 else k.chromaFail,
            if d.getLsbD 0 then 0 else k.zfuncFail, if d.getLsbD 0 then 0 else k.afuncFail,
            if d.getLsbD 0 then 0 else k.pixelsOut, if d.getLsbD 1 then 0 else k.trianglesOut,
            if d.getLsbD 0 then 0 else k.clipFail, if d.getLsbD 0 then 0 else k.stippleFail⟩ }

/-- swapbufferCMD (R370, R371): on V2, or with data[0] clear, the buffers rotate at once, the history gets the blank count
and DisplaySwap is emitted; on V1 with data[0] set the swap becomes pending. -/
def Obligations.SwapCommand : Prop :=
  ∀ (cs : ChipSet) (d : Word) (s : State), tableWf 0 s.regs = true → effectiveChips cs s.cfg.chipmask ≠ 0#4 →
    (s.surf.rgb2 = none → s.swap.front ≠ 2) →
    let keep : Bool := decide (s.cfg.gen = .v2) && d.getLsbD 9
    let front : Fin 3 := if keep then s.swap.front
      else if s.surf.rgb2 = none then (if s.swap.front = 0 then 1 else 0)
      else (if s.swap.front = 2 then 0 else s.swap.front + 1)
    let back : Fin 3 := if keep then s.swap.back
      else if s.surf.rgb2 = none then s.swap.front
      else (if front = 2 then 0 else front + 1)
    ∃ regs, SlotsStored s.regs regs (effectiveChips cs s.cfg.chipmask) 0x4A d ∧
      exec (.swapbufferCMD (.write cs d)) s =
        if s.cfg.gen = .v2 ∨ d.getLsbD 0 = false then
          .next { s with
            regs := regs
            hostEvents := s.hostEvents ++ [.displaySwap front]
            swap := { front := front
                      back := back
                      vblankCount := 0
                      history := (s.swap.history <<< 4) ||| BitVec.ofNat 32 (min s.swap.vblankCount 15)
                      pending := false
                      interval := d.extractLsb' 1 8
                      dontSwap := keep } }
        else .next { s with
          regs := regs
          swap := { s.swap with interval := d.extractLsb' 1 8, dontSwap := false, pending := true } }

/-- The VBlank event counts to at most 250 and completes a pending swap whose interval is reached; nothing else changes
(R372). -/
def Obligations.VblankEvent : Prop :=
  ∀ s : State, ∃ t, takeInput .vblank s = .next t ∧
    let count := min (s.swap.vblankCount + 1) 250
    if s.swap.pending = true ∧ s.swap.interval.toNat ≤ count then
      t = { s with swap := t.swap, hostEvents := s.hostEvents ++ [.displaySwap t.swap.front] } ∧
        t.swap.vblankCount = 0 ∧ t.swap.pending = false ∧ t.swap.interval = s.swap.interval ∧
        t.swap.dontSwap = s.swap.dontSwap ∧
        t.swap.history = (s.swap.history <<< 4) ||| BitVec.ofNat 32 (min count 15) ∧
        (s.swap.dontSwap = true → t.swap.front = s.swap.front ∧ t.swap.back = s.swap.back) ∧
        (s.swap.dontSwap = false → s.surf.rgb2 = none → s.swap.front ≠ 2 →
          t.swap.front = (if s.swap.front = 0 then 1 else 0) ∧ t.swap.back = s.swap.front) ∧
        (s.swap.dontSwap = false → s.surf.rgb2 ≠ none →
          t.swap.front.val = (s.swap.front.val + 1) % 3 ∧ t.swap.back.val = (s.swap.front.val + 2) % 3)
    else t = { s with swap := { s.swap with vblankCount := count } }

/-- While a swap holds, a step takes the first VBlank event past the waiting transactions, and without one nothing changes
(R372; that waiting transactions stay in order is log entry 12). -/
def Obligations.HoldTakesOnlyVblank : Prop :=
  ∀ s : State, s.fatal = false → s.swap.pending = true →
    ((∀ i ∈ s.inbox, i ≠ .vblank) → step s = .next s) ∧
    ∀ before after, (∀ i ∈ before, i ≠ HostInput.vblank) → s.inbox = before ++ .vblank :: after →
      step s = takeInput .vblank { s with inbox := before ++ after }

/-- fastfillCMD completes, counts width times height pixels out when it fills the colour surface, and changes no other
state than its own store and the bytes of its rectangle (R361, R362). -/
def Obligations.FastfillCountsAndFrame : Prop :=
  ∀ (cs : ChipSet) (d : Word) (s : State), tableWf 0 s.regs = true → effectiveChips cs s.cfg.chipmask ≠ 0#4 →
    ∃ regs t, SlotsStored s.regs regs (effectiveChips cs s.cfg.chipmask) 0x49 d ∧
      exec (.fastfillCMD (.write cs d)) s = .next t ∧
      t = { s with
        regs := regs
        fbram := t.fbram
        stats := { s.stats with pixelsOut := s.stats.pixelsOut +
          (if fbzRgbMask s.fbzMode = true ∧ s.drawOffset ≠ none then BitVec.ofNat 24 (s.fillWidth * s.fillHeight)
            else 0) } } ∧
      ∀ a, ¬ s.fillStores a → t.fbByte a = s.fbByte a

/-- After fastfillCMD every pixel of the clip rectangle holds the reduced color1 on the colour surface and zaColor's aux value
on the aux surface, each where it is filled, when the rectangle fits the filled surfaces and they do not overlap in it
(R361, R362). -/
def Obligations.FastfillPixels : Prop :=
  ∀ (cs : ChipSet) (d : Word) (s : State), s.fbram.wf = true → effectiveChips cs s.cfg.chipmask ≠ 0#4 →
    (∀ base, s.fillColor = some base → s.fillFits base) → (∀ aux, s.fillAux = some aux → s.fillFits aux) →
    (∀ base aux, s.fillColor = some base → s.fillAux = some aux → s.fillApart base aux) →
      ∃ t, exec (.fastfillCMD (.write cs d)) s = .next t ∧ ∀ x y, s.inFill x y →
        (∀ base, s.fillColor = some base →
          fbRead16 t (pixelAddr s base (screenY s y) x) = reduce565 s.fbzMode (colorOf s.color1) x y) ∧
        ∀ aux, s.fillAux = some aux →
          fbRead16 t (pixelAddr s aux (screenY s y) x) = s.zaColor.extractLsb' 0 16

/-! ### Triangles -/

/-- A direct triangle with a reserved draw buffer or a NONE surface stores its word and sign and changes nothing else
(R210 to R212, R301). -/
def Obligations.TriangleWithoutBuffer : Prop :=
  ∀ row ∈ triangleRows, ∀ (cs : ChipSet) (d : Word) (s : State), tableWf 0 s.regs = true →
    effectiveChips cs s.cfg.chipmask ≠ 0#4 → s.drawOffset = none →
      ∃ regs, SlotsStored s.regs regs (effectiveChips cs s.cfg.chipmask) row.num d ∧
        exec (row.instr (.write cs d)) s = .next { s with regs := regs, fbi := { s.fbi with sign := d.getLsbD 31 } }

/-- A direct triangle completes when its units can sample and the cache has room, and then `State.TriangleRan` holds of
the state after its store and sign (R210 to R212, R240 to R242, R300, R404). That a unit whose separate_rgba_filter is set
completes when it does not sample is the model's reading of R405 and R406 against R250, R251 and R254 (a) (log entry
20). -/
def Obligations.TriangleDraws : Prop :=
  ∀ row ∈ triangleRows, ∀ (cs : ChipSet) (d : Word) (s : State) (base : Nat), s.Inv →
    effectiveChips cs s.cfg.chipmask ≠ 0#4 → s.drawOffset = some base → s.textureReady → s.cacheRoom →
      ∃ regs t, SlotsStored s.regs regs (effectiveChips cs s.cfg.chipmask) row.num d ∧
        exec (row.instr (.write cs d)) s = .next t ∧
        State.TriangleRan { s with regs := regs, fbi := { s.fbi with sign := d.getLsbD 31 } } base t

/-- A direct triangle stops with CacheFull exactly when its key is new and the cache has no room (R404), and leaves the state
with the command's store, the start values adjusted and the units prepared, and fatal set (R402). That no refusal of
separate_rgba_filter comes before it follows R406 against R251 and R254 (a) (log entry 20). -/
def Obligations.TriangleCacheFull : Prop :=
  ∀ row ∈ triangleRows, ∀ (cs : ChipSet) (d : Word) (s : State) (base : Nat), tableWf 0 s.regs = true →
    effectiveChips cs s.cfg.chipmask ≠ 0#4 → s.drawOffset = some base →
      ∃ regs, SlotsStored s.regs regs (effectiveChips cs s.cfg.chipmask) row.num d ∧
        let full : Prop := renderKey s s.ntmu ∉ s.cacheStates ∧
          Config.cacheCapacity - s.cfg.cacheReserved ≤ s.cacheStates.length
        (full → exec (row.instr (.write cs d)) s =
          .fault (.cacheFull { State.prepared { s with regs := regs, fbi := { s.fbi with sign := d.getLsbD 31 } } with
            fatal := true })) ∧
        (¬ full → ∀ r, exec (row.instr (.write cs d)) s ≠ .fault r)

/-- The coverage does not depend on the order of the vertices, and its spans are those of R241, row by row from the top: with
the vertices in any order of rising Y, in pixels, the rows from rnd(v1.Y) to before rnd(v3.Y), each from the smaller to the
larger rnd of the long and the short edge at the row's centre, rows and ends cut at 4096 on both sides. -/
def Obligations.CoverageByCenters : Prop :=
  (∀ f g : FbiIter, List.Perm [(f.vax, f.vay), (f.vbx, f.vby), (f.vcx, f.vcy)]
    [(g.vax, g.vay), (g.vbx, g.vby), (g.vcx, g.vcy)] → coverage f = coverage g) ∧
  ∀ (f : FbiIter) (v1 v2 v3 : Vertex),
    List.Perm [⟨f.vax.toInt, f.vay.toInt⟩, ⟨f.vbx.toInt, f.vby.toInt⟩, ⟨f.vcx.toInt, f.vcy.toInt⟩] [v1, v2, v3] →
    v1.y ≤ v2.y → v2.y ≤ v3.y →
      (coverage f).Pairwise (fun p q => p.y < q.y) ∧
      ∀ y a b : Int,
        let center : ℚ := y + 1 / 2
        let edge (p q : Vertex) : ℚ := p.x / 16 + (center - p.y / 16) * (q.x / 16 - p.x / 16) / (q.y / 16 - p.y / 16)
        let rnd (t : ℚ) : Int := ⌊t + 1 / 2⌋
        let long := rnd (edge v1 v3)
        let short := rnd (if (center < (v2.y : ℚ) / 16 ∧ v2.y ≠ v1.y) ∨ v3.y = v2.y then edge v1 v2 else edge v2 v3)
        (⟨y, a, b⟩ ∈ coverage f ↔
          v1.y ≠ v3.y ∧ rnd ((v1.y : ℚ) / 16) ≤ y ∧ y < rnd ((v3.y : ℚ) / 16) ∧ -4096 ≤ y ∧ y < 4096 ∧
            a = max (-4096) (min (min long short) 4096) ∧ b = max (-4096) (min (max long short) 4096))

/-- sBeginTriCMD copies the setup registers into all three vertices and sets the count to 1 (R220). -/
def Obligations.BeginTriangleLoadsVertex : Prop :=
  ∀ (cs : ChipSet) (d : Word) (s : State), tableWf 0 s.regs = true → s.cfg.gen = .v2 →
    effectiveChips cs s.cfg.chipmask ≠ 0#4 →
      let r (n : RegNum) : Word := readTable 0 s.regs n.toNat
      let v : SetupVertex :=
        { x := r 0x99, y := r 0x9A, z := r 0xA0, wb := r 0xA1, w0 := r 0xA2, s0 := r 0xA3, t0 := r 0xA4,
          w1 := r 0xA5, s1 := r 0xA6, t1 := r 0xA7, r := r 0x9C, g := r 0x9D, b := r 0x9E, a := r 0x9F }
      ∃ regs, SlotsStored s.regs regs (effectiveChips cs s.cfg.chipmask) 0xA9 d ∧
        exec (.sBeginTriCMD (.write cs d)) s = .next { s with regs := regs, setup := ⟨v, v, v, 1⟩ }

/-- sDrawTriCMD pushes a vertex; below three vertices nothing else happens, and a culled triangle changes only the vertex
positions besides (R221 to R223; what a position out of range becomes is log entry 15). -/
def Obligations.DrawPushesOrCulls : Prop :=
  ∀ (cs : ChipSet) (d : Word) (s : State), tableWf 0 s.regs = true → s.cfg.gen = .v2 →
    effectiveChips cs s.cfg.chipmask ≠ 0#4 →
      ∃ regs, SlotsStored s.regs regs (effectiveChips cs s.cfg.chipmask) 0xA8 d ∧
        (s.pushed.sverts < 3 →
          exec (.sDrawTriCMD (.write cs d)) s = .next { s with regs := regs, setup := s.pushed }) ∧
        (3 ≤ s.pushed.sverts →
          culled s.cfg.cullOn s.sSetupMode s.pushed.sverts s.pushed.divisor = true →
          ∃ vax vay vbx vby vcx vcy draws,
            exec (.sDrawTriCMD (.write cs d)) s =
              .next { s with
                regs := regs
                setup := s.pushed
                fbi := { s.fbi with vax := vax, vay := vay, vbx := vbx, vby := vby, vcx := vcx, vcy := vcy }
                draws := draws } ∧
            ∀ p ∈ [(s.pushed.v0.x, vax), (s.pushed.v0.y, vay), (s.pushed.v1.x, vbx), (s.pushed.v1.y, vby),
              (s.pushed.v2.x, vcx), (s.pushed.v2.y, vcy)],
              ∀ c, convert32 16 (mul32 p.1 0x41800000) = some c → p.2 = c)

/-- sDrawTriCMD with three vertices that are not culled: the setup stores the positions and the selected parameters of R222
from the three vertices and the divisor, and the triangle runs, or without a draw buffer nothing more happens (R221, R222,
R212). The culling test takes the sign of the divisor as log entry 16 says, the cache key is the reference NORMALIZE and the
base LOD the reference LODBASE, which are the model's choices (log entries 8 and 7). That a unit whose separate_rgba_filter is set completes when it does not sample is the model's reading of R405 and R406 against
R250, R251 and R254 (a) (log entry 20). -/
def Obligations.DrawDrawsTriangle : Prop :=
  ∀ (cs : ChipSet) (d : Word) (s : State), s.Inv → s.cfg.gen = .v2 → effectiveChips cs s.cfg.chipmask ≠ 0#4 →
    3 ≤ s.pushed.sverts → culled s.cfg.cullOn s.sSetupMode s.pushed.sverts s.pushed.divisor = false →
      ∃ regs, SlotsStored s.regs regs (effectiveChips cs s.cfg.chipmask) 0xA8 d ∧
        (s.setupDone regs).PositionsSet s.pushed ∧ (s.setupDone regs).ParamsSet s.sSetupMode s.pushed ∧
        (s.drawOffset = none → exec (.sDrawTriCMD (.write cs d)) s = .next (s.setupDone regs)) ∧
        ∀ base, s.drawOffset = some base → s.textureReady → s.cacheRoom →
          ∃ t, exec (.sDrawTriCMD (.write cs d)) s = .next t ∧ (s.setupDone regs).TriangleRan base t

/-- The setup of a triangle keeps every iterator whose bit of sSetupMode is clear, and the vertex positions and everything
else; with the geometry of the buffer, a selected iterator holds Param of R222, written from the three vertices and the
divisor, where its conversions are in range; units that take one Param hold equal values, also where its conversion is a
draw, which is the model's reading (log entry 38). -/
def Obligations.UnselectedSetupFieldsKept : Prop :=
  ∀ (mode : Word) (g : SetupGeometry) (s : State),
    let t := setupParams mode g s
    t = { s with
      fbi := { s.fbi with r := t.fbi.r, g := t.fbi.g, b := t.fbi.b, a := t.fbi.a, z := t.fbi.z, w := t.fbi.w }
      tmu0 := { s.tmu0 with s := t.tmu0.s, t := t.tmu0.t, w := t.tmu0.w }
      tmu1 := { s.tmu1 with s := t.tmu1.s, t := t.tmu1.t, w := t.tmu1.w }
      draws := t.draws } ∧
    (g = setupGeometry s.setup.v0 s.setup.v1 s.setup.v2 → t.ParamsSet mode s.setup) ∧
    (mode.getLsbD 0 = false → t.fbi.r = s.fbi.r ∧ t.fbi.g = s.fbi.g ∧ t.fbi.b = s.fbi.b) ∧
    (mode.getLsbD 1 = false → t.fbi.a = s.fbi.a) ∧
    (mode.getLsbD 2 = false → t.fbi.z = s.fbi.z) ∧
    (mode.getLsbD 3 = false → t.fbi.w = s.fbi.w ∧
      (mode.getLsbD 4 = false → t.tmu0.w = s.tmu0.w ∧ (mode.getLsbD 6 = false → t.tmu1.w = s.tmu1.w))) ∧
    (mode.getLsbD 5 = false → t.tmu0.s = s.tmu0.s ∧ t.tmu0.t = s.tmu0.t ∧
      (mode.getLsbD 7 = false → t.tmu1.s = s.tmu1.s ∧ t.tmu1.t = s.tmu1.t)) ∧
    (mode.getLsbD 3 = true → mode.getLsbD 4 = false → t.tmu0.w = t.fbi.w ∧
      (mode.getLsbD 6 = false → t.tmu1.w = t.fbi.w)) ∧
    (mode.getLsbD 4 = true → mode.getLsbD 6 = false → t.tmu1.w = t.tmu0.w) ∧
    (mode.getLsbD 5 = true → mode.getLsbD 7 = false → t.tmu1.s = t.tmu0.s ∧ t.tmu1.t = t.tmu0.t)

/-! ### Pixels -/

/-- A pixel counts in once and leaves by exactly one exit, which counts once; only the last exit may store (R302). -/
def Obligations.PixelCountsOneExit : Prop :=
  ∀ (p : PixelIn) (s t : State), pixel p s = .next t →
    let k := { s.stats with pixelsIn := s.stats.pixelsIn + 1 }
    t = { s with regs := t.regs, stats := t.stats, fbram := t.fbram } ∧
    ((t.fbram = s.fbram ∧
        (t.stats = { k with stippleFail := k.stippleFail + 1 } ∨ t.stats = { k with zfuncFail := k.zfuncFail + 1 } ∨
          t.stats = { k with chromaFail := k.chromaFail + 1 } ∨ t.stats = { k with afuncFail := k.afuncFail + 1 })) ∨
      t.stats = { k with pixelsOut := k.pixelsOut + 1 })

/-- With every test, the fog, the blend and the texture off and the combine fields all 0, a pixel stores its iterated
colour, reduced, and its aux value (R302, R322, R351). That the aux value is written with enable_depthbuf clear follows R351,
where the cell of bit 4 in R34 says otherwise: the model's reading (log entry 42). -/
def Obligations.PlainPixelStoresIteratedColor : Prop :=
  ∀ (p : PixelIn) (s : State), fbzStipple s.fbzMode = false → fbzDepthBuf s.fbzMode = false →
    fbzChromaKey s.fbzMode = false → fbzAlphaMask s.fbzMode = false → alphaTestEnable s.alphaMode = false →
    alphaBlendEnable s.alphaMode = false → fogEnable s.fogMode = false → s.fbzColorPath = 0 → p.tex.ntmu = 0 →
    (0 ≤ p.iter.a ∧ p.iter.a ≤ 255) → (0 ≤ p.iter.r ∧ p.iter.r ≤ 255) → (0 ≤ p.iter.g ∧ p.iter.g ≤ 255) →
    (0 ≤ p.iter.b ∧ p.iter.b ≤ 255) →
      ∃ t, pixel p s = .next t ∧
        t = { s with
          stats := { s.stats with pixelsIn := s.stats.pixelsIn + 1, pixelsOut := s.stats.pixelsOut + 1 }
          fbram := t.fbram } ∧
        t.fbram =
          let color := if fbzRgbMask s.fbzMode then
              fbWrite16 (pixelAddr s p.base p.scry p.x) (reduce565 s.fbzMode p.iter p.x p.y) s else s
          match s.surf.aux with
          | none => color.fbram
          | some aux =>
            if fbzAuxMask s.fbzMode = true ∧ p.auxWrite = true then
              (fbWrite16 (pixelAddr s aux p.scry p.x)
                (BitVec.ofInt 16 (if fbzAlphaPlanes s.fbzMode then p.iter.a else depthValue s p.z p.w)) color).fbram
            else color.fbram

/-- The floating depth encoding (R304) is 0xFFFF below 2^16; above, with e leading zeros, it is one more than e followed by the
complement of the twelve bits below the leading one, at most 0xFFFF. So a larger value never has a larger code. -/
def Obligations.FloatingDepthEncoding : Prop :=
  (∀ v : Word, v.toNat < 2 ^ 16 → float16 v = 0xFFFF) ∧
  (∀ (v : Word) (e : Nat), e ≤ 15 → 2 ^ (31 - e) ≤ v.toNat → v.toNat < 2 ^ (32 - e) →
    float16 v = min (e * 4096 + (4095 - v.toNat / 2 ^ (19 - e) % 4096) + 1) 0xFFFF) ∧
  ∀ v v' : Word, v.toNat ≤ v'.toNat → float16 v' ≤ float16 v

/-- Reduction keeps each channel inside its field and, dithered or not, within one step of the channel's own top bits
(R350). -/
def Obligations.ReductionStaysInFields : Prop :=
  ∀ (fbz : Word) (r g b : Nat) (a x y : Int), r < 256 → g < 256 → b < 256 →
    let h := (reduce565 fbz ⟨a, r, g, b⟩ x y).toNat
    (r / 8 ≤ h / 2048 + 1 ∧ h / 2048 ≤ r / 8 + 1) ∧ (g / 4 ≤ h / 32 % 64 + 1 ∧ h / 32 % 64 ≤ g / 4 + 1) ∧
      (b / 8 ≤ h % 32 + 1 ∧ h % 32 ≤ b / 8 + 1) ∧
      (fbzDithering fbz = false → h = r / 8 * 2048 + g / 4 * 32 + b / 8)

/-! ### The linear frame buffer -/

/-- An LFB write is logged for a reserved format, then for a reserved buffer, and does nothing without a surface; otherwise
it completes and changes only statistics, a rotated stipple, and bytes of its pixels (R380, R383 to R385). -/
def Obligations.LfbWriteCompletes : Prop :=
  ∀ (l : BitVec 20) (d : Word) (s : State),
    let mode := s.lfbMode
    let surface := if lfbWriteBuffer mode = 0 then s.frontOffset else s.backOffset
    if lfbWriteFormat mode ∉ [0, 1, 2, 4, 5, 12, 13, 14, 15] then
      exec (.lfbWr l d) s = .next { s with log := s.log ++ [.lfbReservedFormat (mode.extractLsb' 0 4)] }
    else if 2 ≤ lfbWriteBuffer mode then exec (.lfbWr l d) s = .next { s with log := s.log ++ [.lfbReservedBuffer] }
    else match surface with
      | none => exec (.lfbWr l d) s = .next s
      | some base => ∃ t, exec (.lfbWr l d) s = .next t ∧
          t = { s with regs := t.regs, stats := t.stats, fbram := t.fbram } ∧
          (∀ j, (j ≠ slotOf 0 0x50 ∨ stippleRotates s.fbzMode = false ∨ lfbPipeline mode = false) →
            t.slot j = s.slot j) ∧
          ∀ a, ¬ s.lfbStores base l a → t.fbByte a = s.fbByte a

/-- The raw path stores each decoded pixel that is in range: its colour, reduced, when the format carries RGB, and in the aux
surface its alpha or its depth, whichever that surface holds, when the format carries it. It counts every decoded pixel out
and changes nothing else, when no colour shares a byte with an aux value (R381 to R384). -/
def Obligations.LfbRawStores : Prop :=
  ∀ (l : BitVec 20) (d : Word) (s : State) (base : Nat), s.fbram.wf = true →
    lfbPipeline s.lfbMode = false → lfbWriteFormat s.lfbMode ∈ [0, 1, 2, 4, 5, 12, 13, 14, 15] →
    lfbWriteBuffer s.lfbMode < 2 →
    (if lfbWriteBuffer s.lfbMode = 0 then s.frontOffset else s.backOffset) = some base → s.rawApart base l →
      let format := lfbWriteFormat s.lfbMode
      let two := lfbTwoPixels format
      let scry := lfbScreenY s (lfbY two l)
      let x (k : Nat) : Int := lfbX two l k
      let wire (k : Nat) : LfbPixel :=
        lfbDecode format (lfbLanes s.lfbMode) s.zaAlpha s.zaDepth (lfbWriteData s.lfbMode d) k
      ∃ t, exec (.lfbWr l d) s = .next t ∧
        t = { s with
          fbram := t.fbram
          stats := { s.stats with pixelsOut := s.stats.pixelsOut + BitVec.ofNat 24 (lfbPixels format).length } } ∧
        (∀ k ∈ lfbPixels format, ∀ b, s.rawColorAt base scry (x k) b →
          fbRead16 t (pixelAddr s b scry (x k)) = reduce565 s.fbzMode (wire k).color (x k) (lfbY two l)) ∧
        (∀ k ∈ lfbPixels format, ∀ b, s.rawAuxAt scry (x k) b →
          fbRead16 t (pixelAddr s b scry (x k)) =
            if fbzAlphaPlanes s.fbzMode then BitVec.ofInt 16 (wire k).color.a else (wire k).depth) ∧
        ∀ a, (∀ k ∈ lfbPixels format, ∀ b, s.rawColorAt base scry (x k) b ∨ s.rawAuxAt scry (x k) b →
            ¬ s.pixelByte b scry (x k) a) → t.fbByte a = s.fbByte a

/-- An LFB read returns the two pixels at its place in the selected surface, rearranged as asked, or all ones where there
is none, and changes nothing else (R390). -/
def Obligations.LfbReadReturnsPixels : Prop :=
  ∀ (l : BitVec 20) (s : State),
    let mode := s.lfbMode
    let x : Int := ((l <<< 1) &&& 0x3FE#20).toNat
    let y : Int := ((l >>> 9) &&& 0x3FF#20).toNat
    let scry : Int := if mode.getLsbD 13 then ((s.surf.yorigin.toNat : Int) - y) % 1024 else y
    let off : Int := scry * (s.surf.rowpixels : Int) + x
    let base := if lfbReadBuffer mode = 0 then s.frontOffset else if lfbReadBuffer mode = 1 then s.backOffset
      else if lfbReadBuffer mode = 2 then s.surf.aux else none
    let value : Word := match base with
      | none => 0xFFFFFFFF
      | some b =>
        if ((2 ^ s.cfg.fbBits - b) / 2 : Nat) ≤ off then 0xFFFFFFFF
        else
          let at' : Int := ((b / 2 : Nat) : Int) + off
          let v : Word := fbRead16 s (at' + 1) ++ fbRead16 s at'
          let v := if mode.getLsbD 15 then wswap v else v
          if mode.getLsbD 16 then swizzle v else v
    exec (.lfbRd l) s = .next { s with readData := value }

/-- Without dithering the 5-6-5 round trip is exact, x-5-5-5 widens green, and 8-8-8 loses the low 3, 2 and 3 bits
(R386). -/
def Obligations.LfbRoundTrip : Prop :=
  ∀ (fbz : Word) (a x y : Int), fbzDithering fbz = false →
    (∀ p q r : Nat, p < 32 → q < 64 → r < 32 →
      reduce565 fbz ⟨a, expand5 p, expand6 q, expand5 r⟩ x y = BitVec.ofNat 16 (p <<< 11 ||| q <<< 5 ||| r)) ∧
    (∀ p q r : Nat, p < 32 → q < 32 → r < 32 →
      reduce565 fbz ⟨a, expand5 p, expand5 q, expand5 r⟩ x y =
        BitVec.ofNat 16 (p <<< 11 ||| (q <<< 1 ||| q >>> 4) <<< 5 ||| r)) ∧
    (∀ p q r : Nat, p < 256 → q < 256 → r < 256 →
      reduce565 fbz ⟨a, p, q, r⟩ x y = BitVec.ofNat 16 (p >>> 3 <<< 11 ||| q >>> 2 <<< 5 ||| r >>> 3))

/-! ### Texture memory -/

/-- A texture write to a present unit stores the four bytes of the rearranged word at the address of its layout, after
bringing the unit's derived state up to date, and changes nothing else (R290 to R292). That it completes also where the unit
is dirty and its separate_rgba_filter is set is the model's reading of R405, R406 and R290's list of refusals against the
Recompute of R251 and R254 (a) (log entry 20). -/
def Obligations.TextureWriteStores : Prop :=
  ∀ (unit : BitVec 2) (lod : BitVec 4) (row : Byte) (sword : BitVec 7) (d : Word) (s : State) (u : TmuId),
    ((unit = 0 ∧ u = .t0) ∨ (unit = 1 ∧ u = .t1)) → s.cfg.chipmask.getLsbD (chipOf u) = true →
    (s.cfg.gen = .v2 → tlDirectWrite (s.tLOD u) = false) → lod.toNat ≤ 8 → 2 ≤ texBits s.cfg u →
    (s.tmu u).ram.wf = true →
      let before := if (s.tmu u).dirty then s.derived u else s.tmu u
      let addr := texWriteAddr (s.setTmu u before) u lod.toNat row.toNat sword.toNat
      let v := texWriteData (s.tLOD u) d
      ∃ ram, exec (.texWr unit lod row sword d) s = .next (s.setTmu u { before with ram := ram }) ∧
        ∀ b, Memory.read ram b =
          if b = addr % 2 ^ texBits s.cfg u then v.extractLsb' 0 8
          else if b = (addr + 1) % 2 ^ texBits s.cfg u then v.extractLsb' 8 8
          else if b = (addr + 2) % 2 ^ texBits s.cfg u then v.extractLsb' 16 8
          else if b = (addr + 3) % 2 ^ texBits s.cfg u then v.extractLsb' 24 8
          else Memory.read (s.tmu u).ram b

/-- A texture write to no unit is logged and dropped, one with tdirect_write set refuses on V2, one with a bad LOD is logged
and dropped with no other effect (log entry 21), and a texture read is logged and returns all ones (R182, R290,
R254). -/
def Obligations.TextureAccessDropped : Prop :=
  ∀ (unit : BitVec 2) (lod : BitVec 4) (row : Byte) (sword : BitVec 7) (d : Word) (s : State),
    ((unit = 0 → s.cfg.chipmask.getLsbD 1 = false) → (unit = 1 → s.cfg.chipmask.getLsbD 2 = false) →
      exec (.texWr unit lod row sword d) s = .next { s with log := s.log ++ [.texNoUnit unit] }) ∧
    (∀ u : TmuId, ((unit = 0 ∧ u = .t0) ∨ (unit = 1 ∧ u = .t1)) → s.cfg.chipmask.getLsbD (chipOf u) = true →
      (s.cfg.gen = .v2 → tlDirectWrite (s.tLOD u) = true →
        exec (.texWr unit lod row sword d) s = .refused .texDirectWrite) ∧
      ((s.cfg.gen = .v2 → tlDirectWrite (s.tLOD u) = false) → 8 < lod.toNat →
        exec (.texWr unit lod row sword d) s = .next { s with log := s.log ++ [.texBadLod lod] })) ∧
    exec (.texRd unit lod row sword) s =
      .next { s with log := s.log ++ [.texReadUnsupported (1#1 ++ unit ++ lod ++ row ++ sword)],
                     readData := 0xFFFFFFFF }

/-! ### The machine -/

/-- A step runs the transaction that the next request decodes to, in the state without that input and with its display
values. -/
def Obligations.StepRunsDecoded : Prop :=
  ∀ (s : State) (q : BusRequest) (display : DisplaySample) (rest : List HostInput) (i : Instr), s.fatal = false →
    s.swap.pending = false → s.inbox = .bus q display :: rest → decode s.remap q = .ok i →
      step s = exec i { s with inbox := rest, display := display }

/-- The other steps: after a fatal error there is none, without an input nothing changes, a narrow request refuses, a request
to a reserved register number runs as that request, which is logged (R137), and a VBlank event takes its effect. -/
def Obligations.StepOtherwise : Prop :=
  ∀ s : State,
    (s.fatal = true → step s = .fault .stopped) ∧
    (s.fatal = false → s.inbox = [] → step s = .next s) ∧
    (s.fatal = false → s.swap.pending = false → ∀ rest,
      (∀ k a d display, s.inbox = .bus ⟨k, .narrow, a, d⟩ display :: rest → step s = .refused .narrowRequest) ∧
      (∀ q display n a, s.inbox = .bus q display :: rest → decode s.remap q = .error (.reserved n a) →
        step s = runRequest q { s with inbox := rest, display := display } ∧
          step s = match a with
            | .write _ d => .next { s with inbox := rest, display := display, log := s.log ++ [.writeNotAllowed n d] }
            | .read => .next { s with inbox := rest, display := display, log := s.log ++ [.readNotAllowed n],
                                      readData := 0xFFFFFFFF }) ∧
      (s.inbox = .vblank :: rest → step s = takeInput .vblank { s with inbox := rest }))

/-- Every step keeps the invariant of the block. -/
def Obligations.StepKeepsInvariant : Prop :=
  ∀ s t : State, s.Inv → step s = .next t → t.Inv

/-- The machine right after reset satisfies the invariant. -/
def Obligations.ResetSatisfiesInvariant : Prop :=
  State.reset.Inv

/-- Construction checks the memory sizes (R402, R430), and the state it gives has the reset values of R431: every register
but the init registers 0, TMUs and NCC tables dirty, buffers 0 and 1, an empty cache and log. That FbTooSmall is tested before
TexTooSmall and TMU0 before TMU1 is in no rule: it is the model's choice (log entry 41). -/
def Obligations.ConstructionGivesResetState : Prop :=
  ∀ p : Params,
    (p.fbBits < p.fbMinBits → instantiate p = .fault .fbTooSmall) ∧
    (p.fbMinBits ≤ p.fbBits → p.chipmask.getLsbD 1 = true → p.texBits0 < p.texMinBits →
      instantiate p = .fault (.texTooSmall .t0)) ∧
    (p.fbMinBits ≤ p.fbBits → (p.chipmask.getLsbD 1 = true → p.texMinBits ≤ p.texBits0) →
      p.chipmask.getLsbD 2 = true → p.texBits1 < p.texMinBits → instantiate p = .fault (.texTooSmall .t1)) ∧
    (p.fbLargeEnough = true → p.texLargeEnough = true →
      ∃ s, instantiate p = .next s ∧ s.cfg = p ∧ (∀ c, c < 4 → ∀ n, isInitReg n = false → s.slot (slotOf c n) = 0) ∧
        (∀ k, readTable 0 s.fogDelta k = 0 ∧ readTable 0 s.fogBlend k = 0) ∧ s.stats = ⟨0, 0, 0, 0, 0, 0, 0, 0⟩ ∧
        s.fbi = .reset ∧
        (∀ u, (s.tmu u).dirty = true ∧ (s.tmu u).s = .zero ∧ (s.tmu u).t = .zero ∧ (s.tmu u).w = .zero ∧
          (s.tmu u).ncc0.dirty = true ∧ (s.tmu u).ncc1.dirty = true ∧ ∀ k, readTable 0 (s.tmu u).palette k = 0) ∧
        s.setup = ⟨.zero, .zero, .zero, 0⟩ ∧ s.swap = ⟨0, 1, 0, 0, false, 0, false⟩ ∧ s.layoutSound = true ∧
        s.cacheStates = [] ∧ s.fatal = false ∧ s.log = [])

end
end

