-- ==== Sys2Proof/Laws/State.lean ====
section
/-! SUPPORT. What each update of the state leaves in each field: one lemma per field per update, true by `rfl`. -/

namespace Sys2Proof.Machine
@[simp] theorem setSlot_cfg (s : State) (k : Nat) (v : Word) : (s.setSlot k v).cfg = s.cfg := rfl
@[simp] theorem setSlot_regs (s : State) (k : Nat) (v : Word) : (s.setSlot k v).regs = writeTable 0 s.regs k v := rfl
@[simp] theorem setSlot_fbi (s : State) (k : Nat) (v : Word) : (s.setSlot k v).fbi = s.fbi := rfl
@[simp] theorem setSlot_tmu0 (s : State) (k : Nat) (v : Word) : (s.setSlot k v).tmu0 = s.tmu0 := rfl
@[simp] theorem setSlot_tmu1 (s : State) (k : Nat) (v : Word) : (s.setSlot k v).tmu1 = s.tmu1 := rfl
@[simp] theorem setSlot_setup (s : State) (k : Nat) (v : Word) : (s.setSlot k v).setup = s.setup := rfl
@[simp] theorem setSlot_fogBlend (s : State) (k : Nat) (v : Word) : (s.setSlot k v).fogBlend = s.fogBlend := rfl
@[simp] theorem setSlot_fogDelta (s : State) (k : Nat) (v : Word) : (s.setSlot k v).fogDelta = s.fogDelta := rfl
@[simp] theorem setSlot_stats (s : State) (k : Nat) (v : Word) : (s.setSlot k v).stats = s.stats := rfl
@[simp] theorem setSlot_surf (s : State) (k : Nat) (v : Word) : (s.setSlot k v).surf = s.surf := rfl
@[simp] theorem setSlot_swap (s : State) (k : Nat) (v : Word) : (s.setSlot k v).swap = s.swap := rfl
@[simp] theorem setSlot_fbram (s : State) (k : Nat) (v : Word) : (s.setSlot k v).fbram = s.fbram := rfl
@[simp] theorem setSlot_cacheStates (s : State) (k : Nat) (v : Word) : (s.setSlot k v).cacheStates = s.cacheStates := rfl
@[simp] theorem setSlot_fatal (s : State) (k : Nat) (v : Word) : (s.setSlot k v).fatal = s.fatal := rfl
@[simp] theorem setSlot_log (s : State) (k : Nat) (v : Word) : (s.setSlot k v).log = s.log := rfl
@[simp] theorem setSlot_inbox (s : State) (k : Nat) (v : Word) : (s.setSlot k v).inbox = s.inbox := rfl
@[simp] theorem setSlot_display (s : State) (k : Nat) (v : Word) : (s.setSlot k v).display = s.display := rfl
@[simp] theorem setSlot_readData (s : State) (k : Nat) (v : Word) : (s.setSlot k v).readData = s.readData := rfl
@[simp] theorem setSlot_hostEvents (s : State) (k : Nat) (v : Word) : (s.setSlot k v).hostEvents = s.hostEvents := rfl
@[simp] theorem setSlot_draws (s : State) (k : Nat) (v : Word) : (s.setSlot k v).draws = s.draws := rfl
@[simp] theorem setFbiReg_cfg (s : State) (n : RegNum) (v : Word) : (s.setFbiReg n v).cfg = s.cfg := rfl
@[simp] theorem setFbiReg_regs (s : State) (n : RegNum) (v : Word) : (s.setFbiReg n v).regs = writeTable 0 s.regs (slotOf 0 n) v := rfl
@[simp] theorem setFbiReg_fbi (s : State) (n : RegNum) (v : Word) : (s.setFbiReg n v).fbi = s.fbi := rfl
@[simp] theorem setFbiReg_tmu0 (s : State) (n : RegNum) (v : Word) : (s.setFbiReg n v).tmu0 = s.tmu0 := rfl
@[simp] theorem setFbiReg_tmu1 (s : State) (n : RegNum) (v : Word) : (s.setFbiReg n v).tmu1 = s.tmu1 := rfl
@[simp] theorem setFbiReg_setup (s : State) (n : RegNum) (v : Word) : (s.setFbiReg n v).setup = s.setup := rfl
@[simp] theorem setFbiReg_fogBlend (s : State) (n : RegNum) (v : Word) : (s.setFbiReg n v).fogBlend = s.fogBlend := rfl
@[simp] theorem setFbiReg_fogDelta (s : State) (n : RegNum) (v : Word) : (s.setFbiReg n v).fogDelta = s.fogDelta := rfl
@[simp] theorem setFbiReg_stats (s : State) (n : RegNum) (v : Word) : (s.setFbiReg n v).stats = s.stats := rfl
@[simp] theorem setFbiReg_surf (s : State) (n : RegNum) (v : Word) : (s.setFbiReg n v).surf = s.surf := rfl
@[simp] theorem setFbiReg_swap (s : State) (n : RegNum) (v : Word) : (s.setFbiReg n v).swap = s.swap := rfl
@[simp] theorem setFbiReg_fbram (s : State) (n : RegNum) (v : Word) : (s.setFbiReg n v).fbram = s.fbram := rfl
@[simp] theorem setFbiReg_cacheStates (s : State) (n : RegNum) (v : Word) : (s.setFbiReg n v).cacheStates = s.cacheStates := rfl
@[simp] theorem setFbiReg_fatal (s : State) (n : RegNum) (v : Word) : (s.setFbiReg n v).fatal = s.fatal := rfl
@[simp] theorem setFbiReg_log (s : State) (n : RegNum) (v : Word) : (s.setFbiReg n v).log = s.log := rfl
@[simp] theorem setFbiReg_inbox (s : State) (n : RegNum) (v : Word) : (s.setFbiReg n v).inbox = s.inbox := rfl
@[simp] theorem setFbiReg_display (s : State) (n : RegNum) (v : Word) : (s.setFbiReg n v).display = s.display := rfl
@[simp] theorem setFbiReg_readData (s : State) (n : RegNum) (v : Word) : (s.setFbiReg n v).readData = s.readData := rfl
@[simp] theorem setFbiReg_hostEvents (s : State) (n : RegNum) (v : Word) : (s.setFbiReg n v).hostEvents = s.hostEvents := rfl
@[simp] theorem setFbiReg_draws (s : State) (n : RegNum) (v : Word) : (s.setFbiReg n v).draws = s.draws := rfl
@[simp] theorem setTmu_t0_cfg (s : State) (t : Tmu) : (s.setTmu .t0 t).cfg = s.cfg := rfl
@[simp] theorem setTmu_t0_regs (s : State) (t : Tmu) : (s.setTmu .t0 t).regs = s.regs := rfl
@[simp] theorem setTmu_t0_fbi (s : State) (t : Tmu) : (s.setTmu .t0 t).fbi = s.fbi := rfl
@[simp] theorem setTmu_t0_tmu0 (s : State) (t : Tmu) : (s.setTmu .t0 t).tmu0 = t := rfl
@[simp] theorem setTmu_t0_tmu1 (s : State) (t : Tmu) : (s.setTmu .t0 t).tmu1 = s.tmu1 := rfl
@[simp] theorem setTmu_t0_setup (s : State) (t : Tmu) : (s.setTmu .t0 t).setup = s.setup := rfl
@[simp] theorem setTmu_t0_fogBlend (s : State) (t : Tmu) : (s.setTmu .t0 t).fogBlend = s.fogBlend := rfl
@[simp] theorem setTmu_t0_fogDelta (s : State) (t : Tmu) : (s.setTmu .t0 t).fogDelta = s.fogDelta := rfl
@[simp] theorem setTmu_t0_stats (s : State) (t : Tmu) : (s.setTmu .t0 t).stats = s.stats := rfl
@[simp] theorem setTmu_t0_surf (s : State) (t : Tmu) : (s.setTmu .t0 t).surf = s.surf := rfl
@[simp] theorem setTmu_t0_swap (s : State) (t : Tmu) : (s.setTmu .t0 t).swap = s.swap := rfl
@[simp] theorem setTmu_t0_fbram (s : State) (t : Tmu) : (s.setTmu .t0 t).fbram = s.fbram := rfl
@[simp] theorem setTmu_t0_cacheStates (s : State) (t : Tmu) : (s.setTmu .t0 t).cacheStates = s.cacheStates := rfl
@[simp] theorem setTmu_t0_fatal (s : State) (t : Tmu) : (s.setTmu .t0 t).fatal = s.fatal := rfl
@[simp] theorem setTmu_t0_log (s : State) (t : Tmu) : (s.setTmu .t0 t).log = s.log := rfl
@[simp] theorem setTmu_t0_inbox (s : State) (t : Tmu) : (s.setTmu .t0 t).inbox = s.inbox := rfl
@[simp] theorem setTmu_t0_display (s : State) (t : Tmu) : (s.setTmu .t0 t).display = s.display := rfl
@[simp] theorem setTmu_t0_readData (s : State) (t : Tmu) : (s.setTmu .t0 t).readData = s.readData := rfl
@[simp] theorem setTmu_t0_hostEvents (s : State) (t : Tmu) : (s.setTmu .t0 t).hostEvents = s.hostEvents := rfl
@[simp] theorem setTmu_t0_draws (s : State) (t : Tmu) : (s.setTmu .t0 t).draws = s.draws := rfl
@[simp] theorem setTmu_t1_cfg (s : State) (t : Tmu) : (s.setTmu .t1 t).cfg = s.cfg := rfl
@[simp] theorem setTmu_t1_regs (s : State) (t : Tmu) : (s.setTmu .t1 t).regs = s.regs := rfl
@[simp] theorem setTmu_t1_fbi (s : State) (t : Tmu) : (s.setTmu .t1 t).fbi = s.fbi := rfl
@[simp] theorem setTmu_t1_tmu0 (s : State) (t : Tmu) : (s.setTmu .t1 t).tmu0 = s.tmu0 := rfl
@[simp] theorem setTmu_t1_tmu1 (s : State) (t : Tmu) : (s.setTmu .t1 t).tmu1 = t := rfl
@[simp] theorem setTmu_t1_setup (s : State) (t : Tmu) : (s.setTmu .t1 t).setup = s.setup := rfl
@[simp] theorem setTmu_t1_fogBlend (s : State) (t : Tmu) : (s.setTmu .t1 t).fogBlend = s.fogBlend := rfl
@[simp] theorem setTmu_t1_fogDelta (s : State) (t : Tmu) : (s.setTmu .t1 t).fogDelta = s.fogDelta := rfl
@[simp] theorem setTmu_t1_stats (s : State) (t : Tmu) : (s.setTmu .t1 t).stats = s.stats := rfl
@[simp] theorem setTmu_t1_surf (s : State) (t : Tmu) : (s.setTmu .t1 t).surf = s.surf := rfl
@[simp] theorem setTmu_t1_swap (s : State) (t : Tmu) : (s.setTmu .t1 t).swap = s.swap := rfl
@[simp] theorem setTmu_t1_fbram (s : State) (t : Tmu) : (s.setTmu .t1 t).fbram = s.fbram := rfl
@[simp] theorem setTmu_t1_cacheStates (s : State) (t : Tmu) : (s.setTmu .t1 t).cacheStates = s.cacheStates := rfl
@[simp] theorem setTmu_t1_fatal (s : State) (t : Tmu) : (s.setTmu .t1 t).fatal = s.fatal := rfl
@[simp] theorem setTmu_t1_log (s : State) (t : Tmu) : (s.setTmu .t1 t).log = s.log := rfl
@[simp] theorem setTmu_t1_inbox (s : State) (t : Tmu) : (s.setTmu .t1 t).inbox = s.inbox := rfl
@[simp] theorem setTmu_t1_display (s : State) (t : Tmu) : (s.setTmu .t1 t).display = s.display := rfl
@[simp] theorem setTmu_t1_readData (s : State) (t : Tmu) : (s.setTmu .t1 t).readData = s.readData := rfl
@[simp] theorem setTmu_t1_hostEvents (s : State) (t : Tmu) : (s.setTmu .t1 t).hostEvents = s.hostEvents := rfl
@[simp] theorem setTmu_t1_draws (s : State) (t : Tmu) : (s.setTmu .t1 t).draws = s.draws := rfl
@[simp] theorem fbWrite16_cfg (a : Int) (v : Half) (s : State) : (fbWrite16 a v s).cfg = s.cfg := rfl
@[simp] theorem fbWrite16_regs (a : Int) (v : Half) (s : State) : (fbWrite16 a v s).regs = s.regs := rfl
@[simp] theorem fbWrite16_fbi (a : Int) (v : Half) (s : State) : (fbWrite16 a v s).fbi = s.fbi := rfl
@[simp] theorem fbWrite16_tmu0 (a : Int) (v : Half) (s : State) : (fbWrite16 a v s).tmu0 = s.tmu0 := rfl
@[simp] theorem fbWrite16_tmu1 (a : Int) (v : Half) (s : State) : (fbWrite16 a v s).tmu1 = s.tmu1 := rfl
@[simp] theorem fbWrite16_setup (a : Int) (v : Half) (s : State) : (fbWrite16 a v s).setup = s.setup := rfl
@[simp] theorem fbWrite16_fogBlend (a : Int) (v : Half) (s : State) : (fbWrite16 a v s).fogBlend = s.fogBlend := rfl
@[simp] theorem fbWrite16_fogDelta (a : Int) (v : Half) (s : State) : (fbWrite16 a v s).fogDelta = s.fogDelta := rfl
@[simp] theorem fbWrite16_stats (a : Int) (v : Half) (s : State) : (fbWrite16 a v s).stats = s.stats := rfl
@[simp] theorem fbWrite16_surf (a : Int) (v : Half) (s : State) : (fbWrite16 a v s).surf = s.surf := rfl
@[simp] theorem fbWrite16_swap (a : Int) (v : Half) (s : State) : (fbWrite16 a v s).swap = s.swap := rfl
@[simp] theorem fbWrite16_cacheStates (a : Int) (v : Half) (s : State) : (fbWrite16 a v s).cacheStates = s.cacheStates := rfl
@[simp] theorem fbWrite16_fatal (a : Int) (v : Half) (s : State) : (fbWrite16 a v s).fatal = s.fatal := rfl
@[simp] theorem fbWrite16_log (a : Int) (v : Half) (s : State) : (fbWrite16 a v s).log = s.log := rfl
@[simp] theorem fbWrite16_inbox (a : Int) (v : Half) (s : State) : (fbWrite16 a v s).inbox = s.inbox := rfl
@[simp] theorem fbWrite16_display (a : Int) (v : Half) (s : State) : (fbWrite16 a v s).display = s.display := rfl
@[simp] theorem fbWrite16_readData (a : Int) (v : Half) (s : State) : (fbWrite16 a v s).readData = s.readData := rfl
@[simp] theorem fbWrite16_hostEvents (a : Int) (v : Half) (s : State) : (fbWrite16 a v s).hostEvents = s.hostEvents := rfl
@[simp] theorem fbWrite16_draws (a : Int) (v : Half) (s : State) : (fbWrite16 a v s).draws = s.draws := rfl
@[simp] theorem logEvent_cfg (e : LogEvent) (s : State) : (logEvent e s).cfg = s.cfg := rfl
@[simp] theorem logEvent_regs (e : LogEvent) (s : State) : (logEvent e s).regs = s.regs := rfl
@[simp] theorem logEvent_fbi (e : LogEvent) (s : State) : (logEvent e s).fbi = s.fbi := rfl
@[simp] theorem logEvent_tmu0 (e : LogEvent) (s : State) : (logEvent e s).tmu0 = s.tmu0 := rfl
@[simp] theorem logEvent_tmu1 (e : LogEvent) (s : State) : (logEvent e s).tmu1 = s.tmu1 := rfl
@[simp] theorem logEvent_setup (e : LogEvent) (s : State) : (logEvent e s).setup = s.setup := rfl
@[simp] theorem logEvent_fogBlend (e : LogEvent) (s : State) : (logEvent e s).fogBlend = s.fogBlend := rfl
@[simp] theorem logEvent_fogDelta (e : LogEvent) (s : State) : (logEvent e s).fogDelta = s.fogDelta := rfl
@[simp] theorem logEvent_stats (e : LogEvent) (s : State) : (logEvent e s).stats = s.stats := rfl
@[simp] theorem logEvent_surf (e : LogEvent) (s : State) : (logEvent e s).surf = s.surf := rfl
@[simp] theorem logEvent_swap (e : LogEvent) (s : State) : (logEvent e s).swap = s.swap := rfl
@[simp] theorem logEvent_fbram (e : LogEvent) (s : State) : (logEvent e s).fbram = s.fbram := rfl
@[simp] theorem logEvent_cacheStates (e : LogEvent) (s : State) : (logEvent e s).cacheStates = s.cacheStates := rfl
@[simp] theorem logEvent_fatal (e : LogEvent) (s : State) : (logEvent e s).fatal = s.fatal := rfl
@[simp] theorem logEvent_log (e : LogEvent) (s : State) : (logEvent e s).log = s.log ++ [e] := rfl
@[simp] theorem logEvent_inbox (e : LogEvent) (s : State) : (logEvent e s).inbox = s.inbox := rfl
@[simp] theorem logEvent_display (e : LogEvent) (s : State) : (logEvent e s).display = s.display := rfl
@[simp] theorem logEvent_readData (e : LogEvent) (s : State) : (logEvent e s).readData = s.readData := rfl
@[simp] theorem logEvent_hostEvents (e : LogEvent) (s : State) : (logEvent e s).hostEvents = s.hostEvents := rfl
@[simp] theorem logEvent_draws (e : LogEvent) (s : State) : (logEvent e s).draws = s.draws := rfl
@[simp] theorem emit_cfg (e : HostEvent) (s : State) : (emit e s).cfg = s.cfg := rfl
@[simp] theorem emit_regs (e : HostEvent) (s : State) : (emit e s).regs = s.regs := rfl
@[simp] theorem emit_fbi (e : HostEvent) (s : State) : (emit e s).fbi = s.fbi := rfl
@[simp] theorem emit_tmu0 (e : HostEvent) (s : State) : (emit e s).tmu0 = s.tmu0 := rfl
@[simp] theorem emit_tmu1 (e : HostEvent) (s : State) : (emit e s).tmu1 = s.tmu1 := rfl
@[simp] theorem emit_setup (e : HostEvent) (s : State) : (emit e s).setup = s.setup := rfl
@[simp] theorem emit_fogBlend (e : HostEvent) (s : State) : (emit e s).fogBlend = s.fogBlend := rfl
@[simp] theorem emit_fogDelta (e : HostEvent) (s : State) : (emit e s).fogDelta = s.fogDelta := rfl
@[simp] theorem emit_stats (e : HostEvent) (s : State) : (emit e s).stats = s.stats := rfl
@[simp] theorem emit_surf (e : HostEvent) (s : State) : (emit e s).surf = s.surf := rfl
@[simp] theorem emit_swap (e : HostEvent) (s : State) : (emit e s).swap = s.swap := rfl
@[simp] theorem emit_fbram (e : HostEvent) (s : State) : (emit e s).fbram = s.fbram := rfl
@[simp] theorem emit_cacheStates (e : HostEvent) (s : State) : (emit e s).cacheStates = s.cacheStates := rfl
@[simp] theorem emit_fatal (e : HostEvent) (s : State) : (emit e s).fatal = s.fatal := rfl
@[simp] theorem emit_log (e : HostEvent) (s : State) : (emit e s).log = s.log := rfl
@[simp] theorem emit_inbox (e : HostEvent) (s : State) : (emit e s).inbox = s.inbox := rfl
@[simp] theorem emit_display (e : HostEvent) (s : State) : (emit e s).display = s.display := rfl
@[simp] theorem emit_readData (e : HostEvent) (s : State) : (emit e s).readData = s.readData := rfl
@[simp] theorem emit_hostEvents (e : HostEvent) (s : State) : (emit e s).hostEvents = s.hostEvents ++ [e] := rfl
@[simp] theorem emit_draws (e : HostEvent) (s : State) : (emit e s).draws = s.draws := rfl
@[simp] theorem addPixelsIn_cfg (k : Nat) (s : State) : (addPixelsIn k s).cfg = s.cfg := rfl
@[simp] theorem addPixelsIn_regs (k : Nat) (s : State) : (addPixelsIn k s).regs = s.regs := rfl
@[simp] theorem addPixelsIn_fbi (k : Nat) (s : State) : (addPixelsIn k s).fbi = s.fbi := rfl
@[simp] theorem addPixelsIn_tmu0 (k : Nat) (s : State) : (addPixelsIn k s).tmu0 = s.tmu0 := rfl
@[simp] theorem addPixelsIn_tmu1 (k : Nat) (s : State) : (addPixelsIn k s).tmu1 = s.tmu1 := rfl
@[simp] theorem addPixelsIn_setup (k : Nat) (s : State) : (addPixelsIn k s).setup = s.setup := rfl
@[simp] theorem addPixelsIn_fogBlend (k : Nat) (s : State) : (addPixelsIn k s).fogBlend = s.fogBlend := rfl
@[simp] theorem addPixelsIn_fogDelta (k : Nat) (s : State) : (addPixelsIn k s).fogDelta = s.fogDelta := rfl
@[simp] theorem addPixelsIn_stats (k : Nat) (s : State) : (addPixelsIn k s).stats = { s.stats with pixelsIn := s.stats.pixelsIn + BitVec.ofNat 24 k } := rfl
@[simp] theorem addPixelsIn_surf (k : Nat) (s : State) : (addPixelsIn k s).surf = s.surf := rfl
@[simp] theorem addPixelsIn_swap (k : Nat) (s : State) : (addPixelsIn k s).swap = s.swap := rfl
@[simp] theorem addPixelsIn_fbram (k : Nat) (s : State) : (addPixelsIn k s).fbram = s.fbram := rfl
@[simp] theorem addPixelsIn_cacheStates (k : Nat) (s : State) : (addPixelsIn k s).cacheStates = s.cacheStates := rfl
@[simp] theorem addPixelsIn_fatal (k : Nat) (s : State) : (addPixelsIn k s).fatal = s.fatal := rfl
@[simp] theorem addPixelsIn_log (k : Nat) (s : State) : (addPixelsIn k s).log = s.log := rfl
@[simp] theorem addPixelsIn_inbox (k : Nat) (s : State) : (addPixelsIn k s).inbox = s.inbox := rfl
@[simp] theorem addPixelsIn_display (k : Nat) (s : State) : (addPixelsIn k s).display = s.display := rfl
@[simp] theorem addPixelsIn_readData (k : Nat) (s : State) : (addPixelsIn k s).readData = s.readData := rfl
@[simp] theorem addPixelsIn_hostEvents (k : Nat) (s : State) : (addPixelsIn k s).hostEvents = s.hostEvents := rfl
@[simp] theorem addPixelsIn_draws (k : Nat) (s : State) : (addPixelsIn k s).draws = s.draws := rfl
@[simp] theorem addPixelsOut_cfg (k : Nat) (s : State) : (addPixelsOut k s).cfg = s.cfg := rfl
@[simp] theorem addPixelsOut_regs (k : Nat) (s : State) : (addPixelsOut k s).regs = s.regs := rfl
@[simp] theorem addPixelsOut_fbi (k : Nat) (s : State) : (addPixelsOut k s).fbi = s.fbi := rfl
@[simp] theorem addPixelsOut_tmu0 (k : Nat) (s : State) : (addPixelsOut k s).tmu0 = s.tmu0 := rfl
@[simp] theorem addPixelsOut_tmu1 (k : Nat) (s : State) : (addPixelsOut k s).tmu1 = s.tmu1 := rfl
@[simp] theorem addPixelsOut_setup (k : Nat) (s : State) : (addPixelsOut k s).setup = s.setup := rfl
@[simp] theorem addPixelsOut_fogBlend (k : Nat) (s : State) : (addPixelsOut k s).fogBlend = s.fogBlend := rfl
@[simp] theorem addPixelsOut_fogDelta (k : Nat) (s : State) : (addPixelsOut k s).fogDelta = s.fogDelta := rfl
@[simp] theorem addPixelsOut_stats (k : Nat) (s : State) : (addPixelsOut k s).stats = { s.stats with pixelsOut := s.stats.pixelsOut + BitVec.ofNat 24 k } := rfl
@[simp] theorem addPixelsOut_surf (k : Nat) (s : State) : (addPixelsOut k s).surf = s.surf := rfl
@[simp] theorem addPixelsOut_swap (k : Nat) (s : State) : (addPixelsOut k s).swap = s.swap := rfl
@[simp] theorem addPixelsOut_fbram (k : Nat) (s : State) : (addPixelsOut k s).fbram = s.fbram := rfl
@[simp] theorem addPixelsOut_cacheStates (k : Nat) (s : State) : (addPixelsOut k s).cacheStates = s.cacheStates := rfl
@[simp] theorem addPixelsOut_fatal (k : Nat) (s : State) : (addPixelsOut k s).fatal = s.fatal := rfl
@[simp] theorem addPixelsOut_log (k : Nat) (s : State) : (addPixelsOut k s).log = s.log := rfl
@[simp] theorem addPixelsOut_inbox (k : Nat) (s : State) : (addPixelsOut k s).inbox = s.inbox := rfl
@[simp] theorem addPixelsOut_display (k : Nat) (s : State) : (addPixelsOut k s).display = s.display := rfl
@[simp] theorem addPixelsOut_readData (k : Nat) (s : State) : (addPixelsOut k s).readData = s.readData := rfl
@[simp] theorem addPixelsOut_hostEvents (k : Nat) (s : State) : (addPixelsOut k s).hostEvents = s.hostEvents := rfl
@[simp] theorem addPixelsOut_draws (k : Nat) (s : State) : (addPixelsOut k s).draws = s.draws := rfl
@[simp] theorem failChroma_cfg (s : State) : (failChroma s).cfg = s.cfg := rfl
@[simp] theorem failChroma_regs (s : State) : (failChroma s).regs = s.regs := rfl
@[simp] theorem failChroma_fbi (s : State) : (failChroma s).fbi = s.fbi := rfl
@[simp] theorem failChroma_tmu0 (s : State) : (failChroma s).tmu0 = s.tmu0 := rfl
@[simp] theorem failChroma_tmu1 (s : State) : (failChroma s).tmu1 = s.tmu1 := rfl
@[simp] theorem failChroma_setup (s : State) : (failChroma s).setup = s.setup := rfl
@[simp] theorem failChroma_fogBlend (s : State) : (failChroma s).fogBlend = s.fogBlend := rfl
@[simp] theorem failChroma_fogDelta (s : State) : (failChroma s).fogDelta = s.fogDelta := rfl
@[simp] theorem failChroma_stats (s : State) : (failChroma s).stats = { s.stats with chromaFail := s.stats.chromaFail + 1 } := rfl
@[simp] theorem failChroma_surf (s : State) : (failChroma s).surf = s.surf := rfl
@[simp] theorem failChroma_swap (s : State) : (failChroma s).swap = s.swap := rfl
@[simp] theorem failChroma_fbram (s : State) : (failChroma s).fbram = s.fbram := rfl
@[simp] theorem failChroma_cacheStates (s : State) : (failChroma s).cacheStates = s.cacheStates := rfl
@[simp] theorem failChroma_fatal (s : State) : (failChroma s).fatal = s.fatal := rfl
@[simp] theorem failChroma_log (s : State) : (failChroma s).log = s.log := rfl
@[simp] theorem failChroma_inbox (s : State) : (failChroma s).inbox = s.inbox := rfl
@[simp] theorem failChroma_display (s : State) : (failChroma s).display = s.display := rfl
@[simp] theorem failChroma_readData (s : State) : (failChroma s).readData = s.readData := rfl
@[simp] theorem failChroma_hostEvents (s : State) : (failChroma s).hostEvents = s.hostEvents := rfl
@[simp] theorem failChroma_draws (s : State) : (failChroma s).draws = s.draws := rfl
@[simp] theorem failZfunc_cfg (s : State) : (failZfunc s).cfg = s.cfg := rfl
@[simp] theorem failZfunc_regs (s : State) : (failZfunc s).regs = s.regs := rfl
@[simp] theorem failZfunc_fbi (s : State) : (failZfunc s).fbi = s.fbi := rfl
@[simp] theorem failZfunc_tmu0 (s : State) : (failZfunc s).tmu0 = s.tmu0 := rfl
@[simp] theorem failZfunc_tmu1 (s : State) : (failZfunc s).tmu1 = s.tmu1 := rfl
@[simp] theorem failZfunc_setup (s : State) : (failZfunc s).setup = s.setup := rfl
@[simp] theorem failZfunc_fogBlend (s : State) : (failZfunc s).fogBlend = s.fogBlend := rfl
@[simp] theorem failZfunc_fogDelta (s : State) : (failZfunc s).fogDelta = s.fogDelta := rfl
@[simp] theorem failZfunc_stats (s : State) : (failZfunc s).stats = { s.stats with zfuncFail := s.stats.zfuncFail + 1 } := rfl
@[simp] theorem failZfunc_surf (s : State) : (failZfunc s).surf = s.surf := rfl
@[simp] theorem failZfunc_swap (s : State) : (failZfunc s).swap = s.swap := rfl
@[simp] theorem failZfunc_fbram (s : State) : (failZfunc s).fbram = s.fbram := rfl
@[simp] theorem failZfunc_cacheStates (s : State) : (failZfunc s).cacheStates = s.cacheStates := rfl
@[simp] theorem failZfunc_fatal (s : State) : (failZfunc s).fatal = s.fatal := rfl
@[simp] theorem failZfunc_log (s : State) : (failZfunc s).log = s.log := rfl
@[simp] theorem failZfunc_inbox (s : State) : (failZfunc s).inbox = s.inbox := rfl
@[simp] theorem failZfunc_display (s : State) : (failZfunc s).display = s.display := rfl
@[simp] theorem failZfunc_readData (s : State) : (failZfunc s).readData = s.readData := rfl
@[simp] theorem failZfunc_hostEvents (s : State) : (failZfunc s).hostEvents = s.hostEvents := rfl
@[simp] theorem failZfunc_draws (s : State) : (failZfunc s).draws = s.draws := rfl
@[simp] theorem failAfunc_cfg (s : State) : (failAfunc s).cfg = s.cfg := rfl
@[simp] theorem failAfunc_regs (s : State) : (failAfunc s).regs = s.regs := rfl
@[simp] theorem failAfunc_fbi (s : State) : (failAfunc s).fbi = s.fbi := rfl
@[simp] theorem failAfunc_tmu0 (s : State) : (failAfunc s).tmu0 = s.tmu0 := rfl
@[simp] theorem failAfunc_tmu1 (s : State) : (failAfunc s).tmu1 = s.tmu1 := rfl
@[simp] theorem failAfunc_setup (s : State) : (failAfunc s).setup = s.setup := rfl
@[simp] theorem failAfunc_fogBlend (s : State) : (failAfunc s).fogBlend = s.fogBlend := rfl
@[simp] theorem failAfunc_fogDelta (s : State) : (failAfunc s).fogDelta = s.fogDelta := rfl
@[simp] theorem failAfunc_stats (s : State) : (failAfunc s).stats = { s.stats with afuncFail := s.stats.afuncFail + 1 } := rfl
@[simp] theorem failAfunc_surf (s : State) : (failAfunc s).surf = s.surf := rfl
@[simp] theorem failAfunc_swap (s : State) : (failAfunc s).swap = s.swap := rfl
@[simp] theorem failAfunc_fbram (s : State) : (failAfunc s).fbram = s.fbram := rfl
@[simp] theorem failAfunc_cacheStates (s : State) : (failAfunc s).cacheStates = s.cacheStates := rfl
@[simp] theorem failAfunc_fatal (s : State) : (failAfunc s).fatal = s.fatal := rfl
@[simp] theorem failAfunc_log (s : State) : (failAfunc s).log = s.log := rfl
@[simp] theorem failAfunc_inbox (s : State) : (failAfunc s).inbox = s.inbox := rfl
@[simp] theorem failAfunc_display (s : State) : (failAfunc s).display = s.display := rfl
@[simp] theorem failAfunc_readData (s : State) : (failAfunc s).readData = s.readData := rfl
@[simp] theorem failAfunc_hostEvents (s : State) : (failAfunc s).hostEvents = s.hostEvents := rfl
@[simp] theorem failAfunc_draws (s : State) : (failAfunc s).draws = s.draws := rfl
@[simp] theorem failStipple_cfg (s : State) : (failStipple s).cfg = s.cfg := rfl
@[simp] theorem failStipple_regs (s : State) : (failStipple s).regs = s.regs := rfl
@[simp] theorem failStipple_fbi (s : State) : (failStipple s).fbi = s.fbi := rfl
@[simp] theorem failStipple_tmu0 (s : State) : (failStipple s).tmu0 = s.tmu0 := rfl
@[simp] theorem failStipple_tmu1 (s : State) : (failStipple s).tmu1 = s.tmu1 := rfl
@[simp] theorem failStipple_setup (s : State) : (failStipple s).setup = s.setup := rfl
@[simp] theorem failStipple_fogBlend (s : State) : (failStipple s).fogBlend = s.fogBlend := rfl
@[simp] theorem failStipple_fogDelta (s : State) : (failStipple s).fogDelta = s.fogDelta := rfl
@[simp] theorem failStipple_stats (s : State) : (failStipple s).stats = { s.stats with stippleFail := s.stats.stippleFail + 1 } := rfl
@[simp] theorem failStipple_surf (s : State) : (failStipple s).surf = s.surf := rfl
@[simp] theorem failStipple_swap (s : State) : (failStipple s).swap = s.swap := rfl
@[simp] theorem failStipple_fbram (s : State) : (failStipple s).fbram = s.fbram := rfl
@[simp] theorem failStipple_cacheStates (s : State) : (failStipple s).cacheStates = s.cacheStates := rfl
@[simp] theorem failStipple_fatal (s : State) : (failStipple s).fatal = s.fatal := rfl
@[simp] theorem failStipple_log (s : State) : (failStipple s).log = s.log := rfl
@[simp] theorem failStipple_inbox (s : State) : (failStipple s).inbox = s.inbox := rfl
@[simp] theorem failStipple_display (s : State) : (failStipple s).display = s.display := rfl
@[simp] theorem failStipple_readData (s : State) : (failStipple s).readData = s.readData := rfl
@[simp] theorem failStipple_hostEvents (s : State) : (failStipple s).hostEvents = s.hostEvents := rfl
@[simp] theorem failStipple_draws (s : State) : (failStipple s).draws = s.draws := rfl
@[simp] theorem addClipFail_cfg (k : Nat) (s : State) : (addClipFail k s).cfg = s.cfg := rfl
@[simp] theorem addClipFail_regs (k : Nat) (s : State) : (addClipFail k s).regs = s.regs := rfl
@[simp] theorem addClipFail_fbi (k : Nat) (s : State) : (addClipFail k s).fbi = s.fbi := rfl
@[simp] theorem addClipFail_tmu0 (k : Nat) (s : State) : (addClipFail k s).tmu0 = s.tmu0 := rfl
@[simp] theorem addClipFail_tmu1 (k : Nat) (s : State) : (addClipFail k s).tmu1 = s.tmu1 := rfl
@[simp] theorem addClipFail_setup (k : Nat) (s : State) : (addClipFail k s).setup = s.setup := rfl
@[simp] theorem addClipFail_fogBlend (k : Nat) (s : State) : (addClipFail k s).fogBlend = s.fogBlend := rfl
@[simp] theorem addClipFail_fogDelta (k : Nat) (s : State) : (addClipFail k s).fogDelta = s.fogDelta := rfl
@[simp] theorem addClipFail_stats (k : Nat) (s : State) : (addClipFail k s).stats = { s.stats with clipFail := s.stats.clipFail + k } := rfl
@[simp] theorem addClipFail_surf (k : Nat) (s : State) : (addClipFail k s).surf = s.surf := rfl
@[simp] theorem addClipFail_swap (k : Nat) (s : State) : (addClipFail k s).swap = s.swap := rfl
@[simp] theorem addClipFail_fbram (k : Nat) (s : State) : (addClipFail k s).fbram = s.fbram := rfl
@[simp] theorem addClipFail_cacheStates (k : Nat) (s : State) : (addClipFail k s).cacheStates = s.cacheStates := rfl
@[simp] theorem addClipFail_fatal (k : Nat) (s : State) : (addClipFail k s).fatal = s.fatal := rfl
@[simp] theorem addClipFail_log (k : Nat) (s : State) : (addClipFail k s).log = s.log := rfl
@[simp] theorem addClipFail_inbox (k : Nat) (s : State) : (addClipFail k s).inbox = s.inbox := rfl
@[simp] theorem addClipFail_display (k : Nat) (s : State) : (addClipFail k s).display = s.display := rfl
@[simp] theorem addClipFail_readData (k : Nat) (s : State) : (addClipFail k s).readData = s.readData := rfl
@[simp] theorem addClipFail_hostEvents (k : Nat) (s : State) : (addClipFail k s).hostEvents = s.hostEvents := rfl
@[simp] theorem addClipFail_draws (k : Nat) (s : State) : (addClipFail k s).draws = s.draws := rfl
@[simp] theorem addTriangle_cfg (s : State) : (addTriangle s).cfg = s.cfg := rfl
@[simp] theorem addTriangle_regs (s : State) : (addTriangle s).regs = s.regs := rfl
@[simp] theorem addTriangle_fbi (s : State) : (addTriangle s).fbi = s.fbi := rfl
@[simp] theorem addTriangle_tmu0 (s : State) : (addTriangle s).tmu0 = s.tmu0 := rfl
@[simp] theorem addTriangle_tmu1 (s : State) : (addTriangle s).tmu1 = s.tmu1 := rfl
@[simp] theorem addTriangle_setup (s : State) : (addTriangle s).setup = s.setup := rfl
@[simp] theorem addTriangle_fogBlend (s : State) : (addTriangle s).fogBlend = s.fogBlend := rfl
@[simp] theorem addTriangle_fogDelta (s : State) : (addTriangle s).fogDelta = s.fogDelta := rfl
@[simp] theorem addTriangle_stats (s : State) : (addTriangle s).stats = { s.stats with trianglesOut := s.stats.trianglesOut + 1 } := rfl
@[simp] theorem addTriangle_surf (s : State) : (addTriangle s).surf = s.surf := rfl
@[simp] theorem addTriangle_swap (s : State) : (addTriangle s).swap = s.swap := rfl
@[simp] theorem addTriangle_fbram (s : State) : (addTriangle s).fbram = s.fbram := rfl
@[simp] theorem addTriangle_cacheStates (s : State) : (addTriangle s).cacheStates = s.cacheStates := rfl
@[simp] theorem addTriangle_fatal (s : State) : (addTriangle s).fatal = s.fatal := rfl
@[simp] theorem addTriangle_log (s : State) : (addTriangle s).log = s.log := rfl
@[simp] theorem addTriangle_inbox (s : State) : (addTriangle s).inbox = s.inbox := rfl
@[simp] theorem addTriangle_display (s : State) : (addTriangle s).display = s.display := rfl
@[simp] theorem addTriangle_readData (s : State) : (addTriangle s).readData = s.readData := rfl
@[simp] theorem addTriangle_hostEvents (s : State) : (addTriangle s).hostEvents = s.hostEvents := rfl
@[simp] theorem addTriangle_draws (s : State) : (addTriangle s).draws = s.draws := rfl
@[simp] theorem clearPixelStats_cfg (s : State) : (clearPixelStats s).cfg = s.cfg := rfl
@[simp] theorem clearPixelStats_regs (s : State) : (clearPixelStats s).regs = s.regs := rfl
@[simp] theorem clearPixelStats_fbi (s : State) : (clearPixelStats s).fbi = s.fbi := rfl
@[simp] theorem clearPixelStats_tmu0 (s : State) : (clearPixelStats s).tmu0 = s.tmu0 := rfl
@[simp] theorem clearPixelStats_tmu1 (s : State) : (clearPixelStats s).tmu1 = s.tmu1 := rfl
@[simp] theorem clearPixelStats_setup (s : State) : (clearPixelStats s).setup = s.setup := rfl
@[simp] theorem clearPixelStats_fogBlend (s : State) : (clearPixelStats s).fogBlend = s.fogBlend := rfl
@[simp] theorem clearPixelStats_fogDelta (s : State) : (clearPixelStats s).fogDelta = s.fogDelta := rfl
@[simp] theorem clearPixelStats_surf (s : State) : (clearPixelStats s).surf = s.surf := rfl
@[simp] theorem clearPixelStats_swap (s : State) : (clearPixelStats s).swap = s.swap := rfl
@[simp] theorem clearPixelStats_fbram (s : State) : (clearPixelStats s).fbram = s.fbram := rfl
@[simp] theorem clearPixelStats_cacheStates (s : State) : (clearPixelStats s).cacheStates = s.cacheStates := rfl
@[simp] theorem clearPixelStats_fatal (s : State) : (clearPixelStats s).fatal = s.fatal := rfl
@[simp] theorem clearPixelStats_log (s : State) : (clearPixelStats s).log = s.log := rfl
@[simp] theorem clearPixelStats_inbox (s : State) : (clearPixelStats s).inbox = s.inbox := rfl
@[simp] theorem clearPixelStats_display (s : State) : (clearPixelStats s).display = s.display := rfl
@[simp] theorem clearPixelStats_readData (s : State) : (clearPixelStats s).readData = s.readData := rfl
@[simp] theorem clearPixelStats_hostEvents (s : State) : (clearPixelStats s).hostEvents = s.hostEvents := rfl
@[simp] theorem clearPixelStats_draws (s : State) : (clearPixelStats s).draws = s.draws := rfl
@[simp] theorem clearTriangles_cfg (s : State) : (clearTriangles s).cfg = s.cfg := rfl
@[simp] theorem clearTriangles_regs (s : State) : (clearTriangles s).regs = s.regs := rfl
@[simp] theorem clearTriangles_fbi (s : State) : (clearTriangles s).fbi = s.fbi := rfl
@[simp] theorem clearTriangles_tmu0 (s : State) : (clearTriangles s).tmu0 = s.tmu0 := rfl
@[simp] theorem clearTriangles_tmu1 (s : State) : (clearTriangles s).tmu1 = s.tmu1 := rfl
@[simp] theorem clearTriangles_setup (s : State) : (clearTriangles s).setup = s.setup := rfl
@[simp] theorem clearTriangles_fogBlend (s : State) : (clearTriangles s).fogBlend = s.fogBlend := rfl
@[simp] theorem clearTriangles_fogDelta (s : State) : (clearTriangles s).fogDelta = s.fogDelta := rfl
@[simp] theorem clearTriangles_stats (s : State) : (clearTriangles s).stats = { s.stats with trianglesOut := 0 } := rfl
@[simp] theorem clearTriangles_surf (s : State) : (clearTriangles s).surf = s.surf := rfl
@[simp] theorem clearTriangles_swap (s : State) : (clearTriangles s).swap = s.swap := rfl
@[simp] theorem clearTriangles_fbram (s : State) : (clearTriangles s).fbram = s.fbram := rfl
@[simp] theorem clearTriangles_cacheStates (s : State) : (clearTriangles s).cacheStates = s.cacheStates := rfl
@[simp] theorem clearTriangles_fatal (s : State) : (clearTriangles s).fatal = s.fatal := rfl
@[simp] theorem clearTriangles_log (s : State) : (clearTriangles s).log = s.log := rfl
@[simp] theorem clearTriangles_inbox (s : State) : (clearTriangles s).inbox = s.inbox := rfl
@[simp] theorem clearTriangles_display (s : State) : (clearTriangles s).display = s.display := rfl
@[simp] theorem clearTriangles_readData (s : State) : (clearTriangles s).readData = s.readData := rfl
@[simp] theorem clearTriangles_hostEvents (s : State) : (clearTriangles s).hostEvents = s.hostEvents := rfl
@[simp] theorem clearTriangles_draws (s : State) : (clearTriangles s).draws = s.draws := rfl

end Sys2Proof.Machine
end

