-- ==== Sys2Proof/Laws/Table.lean ====
section
/-! SUPPORT. Tables and memories: read after write, the canonical form and the index range are kept by every write. -/

namespace Sys2Proof.Machine

variable {α : Type} [DecidableEq α] {d : α}

/-- An index below every listed one reads as the unlisted value. -/
theorem readTable_of_tableFrom {lo a : Nat} {t : Table α} (h : tableFrom d lo t = true) (ha : a < lo) :
    readTable d t a = d := by
  induction t generalizing lo with
  | nil => rfl
  | cons e t ih =>
    obtain ⟨k, v⟩ := e
    simp only [tableFrom, Bool.and_eq_true, decide_eq_true_eq] at h
    have hk : ¬ k = a := by omega
    simp only [readTable, hk, if_false]
    exact ih h.2 (by omega)

/-- A table canonical from `lo` is canonical from below. -/
theorem tableFrom_mono {lo lo' : Nat} {t : Table α} (h : tableFrom d lo t = true) (hl : lo' ≤ lo) :
    tableFrom d lo' t = true := by
  cases t with
  | nil => rfl
  | cons e t =>
    obtain ⟨k, v⟩ := e
    simp only [tableFrom, Bool.and_eq_true, decide_eq_true_eq] at h ⊢
    exact ⟨⟨by omega, h.1.2⟩, h.2⟩

/-- A write keeps the canonical form above a bound that the index respects. -/
theorem tableFrom_writeTable {lo a : Nat} {v : α} {t : Table α} (h : tableFrom d lo t = true) (ha : lo ≤ a) :
    tableFrom d lo (writeTable d t a v) = true := by
  induction t generalizing lo with
  | nil =>
    simp only [writeTable]
    split
    · rfl
    · next hv => simp [tableFrom, ha, hv]
  | cons e t ih =>
    obtain ⟨k, w⟩ := e
    have h' := h
    simp only [tableFrom, Bool.and_eq_true, decide_eq_true_eq] at h
    simp only [writeTable]
    split
    · next hak =>
      split
      · exact h'
      · next hv =>
        simp only [tableFrom, Bool.and_eq_true, decide_eq_true_eq]
        exact ⟨⟨ha, hv⟩, ⟨⟨by omega, h.1.2⟩, h.2⟩⟩
    · next hak =>
      split
      · next hk =>
        split
        · exact tableFrom_mono h.2 (by omega)
        · next hv =>
          simp only [tableFrom, Bool.and_eq_true, decide_eq_true_eq]
          exact ⟨⟨ha, hv⟩, hk ▸ h.2⟩
      · next hk =>
        simp only [tableFrom, Bool.and_eq_true, decide_eq_true_eq]
        exact ⟨⟨h.1.1, h.1.2⟩, ih h.2 (by omega)⟩

/-- A write keeps the canonical form. -/
theorem tableWf_writeTable {a : Nat} {v : α} {t : Table α} (h : tableWf d t = true) :
    tableWf d (writeTable d t a v) = true :=
  tableFrom_writeTable h (Nat.zero_le a)

/-- Read after write at the same index. -/
theorem readTable_writeTable_self {lo a : Nat} {v : α} {t : Table α} (h : tableFrom d lo t = true) :
    readTable d (writeTable d t a v) a = v := by
  induction t generalizing lo with
  | nil =>
    simp only [writeTable]
    split
    · next hv => simp [readTable, hv]
    · simp [readTable]
  | cons e t ih =>
    obtain ⟨k, w⟩ := e
    simp only [tableFrom, Bool.and_eq_true, decide_eq_true_eq] at h
    simp only [writeTable]
    split
    · next hak =>
      split
      · next hv =>
        have hk : ¬ k = a := by omega
        simp only [readTable, hk, if_false, hv]
        exact readTable_of_tableFrom h.2 (by omega)
      · simp [readTable]
    · next hak =>
      split
      · next hk =>
        split
        · next hv => rw [hv]; exact readTable_of_tableFrom h.2 (by omega)
        · simp [readTable]
      · next hk =>
        have hk' : ¬ k = a := fun h' => hk h'.symm
        simp only [readTable, hk', if_false]
        exact ih h.2

/-- A write leaves every other index alone. -/
theorem readTable_writeTable_other {a b : Nat} {v : α} {t : Table α} (hab : b ≠ a) :
    readTable d (writeTable d t a v) b = readTable d t b := by
  induction t with
  | nil =>
    simp only [writeTable]
    split
    · rfl
    · simp [readTable, Ne.symm hab]
  | cons e t ih =>
    obtain ⟨k, w⟩ := e
    simp only [writeTable]
    split
    · split
      · rfl
      · simp [readTable, Ne.symm hab]
    · split
      · next hk =>
        subst hk
        split <;> simp [readTable, Ne.symm hab]
      · simp only [readTable]
        split
        · rfl
        · exact ih

/-- What any index reads after a write. -/
theorem readTable_writeTable {a b : Nat} {v : α} {t : Table α} (h : tableWf d t = true) :
    readTable d (writeTable d t a v) b = if b = a then v else readTable d t b := by
  split
  · next hb => subst hb; exact readTable_writeTable_self h
  · next hb => exact readTable_writeTable_other hb

/-- A property of every entry is kept by a write of an entry that has it. -/
theorem all_writeTable {p : Nat × α → Bool} {a : Nat} {v : α} {t : Table α} (h : t.all p = true)
    (hv : p (a, v) = true) : (writeTable d t a v).all p = true := by
  induction t with
  | nil => simp only [writeTable]; split <;> simp [hv]
  | cons e t ih =>
    obtain ⟨k, w⟩ := e
    simp only [List.all_cons, Bool.and_eq_true] at h
    simp only [writeTable]
    split
    · split
      · simp [h.1, h.2]
      · simp [h.1, h.2, hv]
    · split
      · split
        · exact h.2
        · simp [h.2, hv]
      · simp [h.1, ih h.2]

/-- A write below a bound keeps the table below it. -/
theorem tableBelow_writeTable {n a : Nat} {v : α} {t : Table α} (h : tableBelow n t = true) (ha : a < n) :
    tableBelow n (writeTable d t a v) = true :=
  all_writeTable h (by simpa using ha)

/-- Two canonical tables that read alike are equal. -/
theorem table_ext {lo : Nat} {t u : Table α} (ht : tableFrom d lo t = true) (hu : tableFrom d lo u = true)
    (h : ∀ a, readTable d t a = readTable d u a) : t = u := by
  induction t generalizing lo u with
  | nil =>
    cases u with
    | nil => rfl
    | cons e u =>
      obtain ⟨k, v⟩ := e
      have := h k
      simp only [tableFrom, Bool.and_eq_true, decide_eq_true_eq] at hu
      simp only [readTable, if_true] at this
      exact absurd this.symm hu.1.2
  | cons e t ih =>
    obtain ⟨k, v⟩ := e
    have ht' := ht
    simp only [tableFrom, Bool.and_eq_true, decide_eq_true_eq] at ht
    cases u with
    | nil =>
      have := h k
      simp only [readTable, if_true] at this
      exact absurd this ht.1.2
    | cons e' u =>
      obtain ⟨k', v'⟩ := e'
      have hu' := hu
      simp only [tableFrom, Bool.and_eq_true, decide_eq_true_eq] at hu
      have hkk : k = k' := by
        rcases Nat.lt_trichotomy k k' with hlt | heq | hgt
        · have h1 := h k
          have h2 : ¬ k' = k := by omega
          simp only [readTable, if_true, h2, if_false] at h1
          rw [readTable_of_tableFrom hu.2 (by omega)] at h1
          exact absurd h1 ht.1.2
        · exact heq
        · have h1 := h k'
          have h2 : ¬ k = k' := by omega
          simp only [readTable, if_true, h2, if_false] at h1
          rw [readTable_of_tableFrom ht.2 (by omega)] at h1
          exact absurd h1.symm hu.1.2
      subst hkk
      have hv : v = v' := by simpa [readTable] using h k
      subst hv
      congr 1
      refine ih ht.2 hu.2 fun a => ?_
      by_cases hak : k = a
      · subst hak
        rw [readTable_of_tableFrom ht.2 (by omega), readTable_of_tableFrom hu.2 (by omega)]
      · simpa [readTable, hak] using h a

/-! ### Memories -/

/-- A memory write keeps the canonical form. -/
theorem Memory.wf_write {m : Memory} {a : Nat} {v : Byte} (h : m.wf = true) : (m.write a v).wf = true :=
  tableWf_writeTable h

/-- What any address reads after a memory write. -/
theorem Memory.read_write {m : Memory} {a b : Nat} {v : Byte} (h : m.wf = true) :
    (m.write a v).read b = if b = a then v else m.read b :=
  readTable_writeTable h

/-- A memory write leaves every other address alone. -/
theorem Memory.read_write_other {m : Memory} {a b : Nat} {v : Byte} (hab : b ≠ a) : (m.write a v).read b = m.read b :=
  readTable_writeTable_other hab

/-- The memory of reset has the canonical form. -/
theorem Memory.wf_reset : State.reset.fbram.wf = true := by decide

/-- A masked frame-buffer address lies inside the memory. -/
theorem fbByteAddr_lt (p : Params) (i : Int) : fbByteAddr p i < 2 ^ p.fbBits := by
  unfold fbByteAddr
  have hpos : (0 : Int) < ((2 ^ p.fbBits : Nat) : Int) := by exact_mod_cast Nat.two_pow_pos p.fbBits
  have h1 := Int.emod_nonneg i (ne_of_gt hpos)
  have h2 := Int.emod_lt_of_pos i hpos
  omega

/-- A 16-bit write keeps the frame buffer canonical. -/
theorem fbWrite16_wf {a : Int} {v : Half} {s : State} (h : s.fbram.wf = true) : (fbWrite16 a v s).fbram.wf = true :=
  Memory.wf_write (Memory.wf_write h)

/-- A 16-bit write keeps the frame buffer inside its size. -/
theorem fbWrite16_below {a : Int} {v : Half} {s : State} (h : tableBelow (2 ^ s.cfg.fbBits) s.fbram = true) :
    tableBelow (2 ^ s.cfg.fbBits) (fbWrite16 a v s).fbram = true :=
  tableBelow_writeTable (tableBelow_writeTable h (fbByteAddr_lt _ _)) (fbByteAddr_lt _ _)

/-- Every byte outside the two of a 16-bit write reads as before. -/
theorem fbWrite16_other {a : Int} {v : Half} {s : State} {b : Nat} (h0 : b ≠ fbByteAddr s.cfg (2 * a))
    (h1 : b ≠ fbByteAddr s.cfg (2 * a + 1)) : (fbWrite16 a v s).fbByte b = s.fbByte b :=
  (Memory.read_write_other h1).trans (Memory.read_write_other h0)

/-- What any byte reads after a 16-bit write: the high byte, the low byte, or what it read before. -/
theorem fbWrite16_byte {a : Int} {v : Half} {s : State} {b : Nat} (h : s.fbram.wf = true) :
    (fbWrite16 a v s).fbByte b =
      if b = fbByteAddr s.cfg (2 * a + 1) then field v 8 8
      else if b = fbByteAddr s.cfg (2 * a) then field v 0 8
      else s.fbByte b := by
  show Memory.read (Memory.write (Memory.write _ _ _) _ _) b = _
  rw [Memory.read_write (Memory.wf_write h), Memory.read_write h]
  rfl

end Sys2Proof.Machine
end

