-- ==== Sys2Proof/Laws/Registers.lean ====
section
/-! SUPPORT. What the register file, the access paths and the sequencing operations can do, said once each. -/

namespace Sys2Proof.Machine

/-- Slots of different chips or registers differ. -/
theorem slotOf_inj {c c' : Nat} {n m : RegNum} (h : slotOf c n = slotOf c' m) : c = c' ∧ n = m := by
  unfold slotOf at h
  have h1 := n.isLt
  have h2 := m.isLt
  refine ⟨by omega, BitVec.eq_of_toNat_eq (by omega)⟩

/-- A register slot lies in the register file. -/
theorem slotOf_lt {c : Nat} (hc : c < 4) (n : RegNum) : slotOf c n < 1024 := by
  unfold slotOf
  have := n.isLt
  omega

/-- The chip of a slot. -/
theorem slotOf_div (c : Nat) (n : RegNum) : slotOf c n / 256 = c := by
  unfold slotOf
  have := n.isLt
  omega

/-- What any slot reads after a write of slot `k`. -/
theorem slot_setSlot {s : State} {k j : Nat} {v : Word} (h : tableWf 0 s.regs = true) :
    (s.setSlot k v).slot j = if j = k then v else s.slot j :=
  readTable_writeTable h

/-- A slot other than the written one. -/
theorem slot_setSlot_other {s : State} {k j : Nat} {v : Word} (h : j ≠ k) : (s.setSlot k v).slot j = s.slot j :=
  readTable_writeTable_other h

/-- What any slot reads after the store of one chip. -/
theorem slot_storeChip {s : State} {chips : ChipSet} {n : RegNum} {data : Word} {c : Nat} {j : Nat}
    (h : tableWf 0 s.regs = true) :
    (storeChip chips n data c s).slot j = if j = slotOf c n ∧ bit chips c = true then data else s.slot j := by
  unfold storeChip
  by_cases hb : bit chips c = true
  · simp only [hb, if_true, and_true, slot_setSlot h]
  · simp [hb]

/-- The store of one chip keeps the register file canonical. -/
theorem storeChip_wf {s : State} {chips : ChipSet} {n : RegNum} {data : Word} {c : Nat} (h : tableWf 0 s.regs = true) :
    tableWf 0 (storeChip chips n data c s).regs = true := by
  unfold storeChip
  split
  · exact tableWf_writeTable h
  · exact h

/-- The store of every chip keeps the register file canonical. -/
theorem storeChips_wf {s : State} {chips : ChipSet} {n : RegNum} {data : Word} (h : tableWf 0 s.regs = true) :
    tableWf 0 (storeChips chips n data s).regs = true :=
  storeChip_wf (storeChip_wf (storeChip_wf (storeChip_wf h)))

/-- The store of one chip changes the register file alone. -/
theorem storeChip_frame (chips : ChipSet) (n : RegNum) (data : Word) (c : Nat) (s : State) :
    storeChip chips n data c s = { s with regs := (storeChip chips n data c s).regs } := by
  unfold storeChip
  split <;> rfl

/-- The store of every chip changes the register file alone (40_register_access.md R174). -/
theorem storeChips_frame (chips : ChipSet) (n : RegNum) (data : Word) (s : State) :
    storeChips chips n data s = { s with regs := (storeChips chips n data s).regs } := by
  unfold storeChips
  rw [storeChip_frame chips n data 3, storeChip_frame chips n data 2, storeChip_frame chips n data 1,
    storeChip_frame chips n data 0]

/-- What any register slot reads after the store of every chip (40_register_access.md R174). -/
theorem slot_storeChips {s : State} {chips : ChipSet} {n m : RegNum} {data : Word} {c : Nat}
    (h : tableWf 0 s.regs = true) (hc : c < 4) :
    (storeChips chips n data s).slot (slotOf c m) =
      if m = n ∧ bit chips c = true then data else s.slot (slotOf c m) := by
  have h0 := storeChip_wf (chips := chips) (n := n) (data := data) (c := 0) h
  have h1 := storeChip_wf (chips := chips) (n := n) (data := data) (c := 1) h0
  have h2 := storeChip_wf (chips := chips) (n := n) (data := data) (c := 2) h1
  have key : ∀ c', (slotOf c m = slotOf c' n) ↔ (c = c' ∧ m = n) :=
    fun c' => ⟨slotOf_inj, fun ⟨a, b⟩ => by rw [a, b]⟩
  unfold storeChips
  rw [slot_storeChip h2, slot_storeChip h1, slot_storeChip h0, slot_storeChip h]
  simp only [key]
  have : c = 0 ∨ c = 1 ∨ c = 2 ∨ c = 3 := by omega
  rcases this with rfl | rfl | rfl | rfl <;> by_cases hm : m = n <;> simp [hm]

/-- A slot that the store of every chip does not name, in any register file. -/
theorem slot_storeChips_other {s : State} {chips : ChipSet} {n : RegNum} {data : Word} {j : Nat}
    (h : ∀ c, c < 4 → bit chips c = true → j ≠ slotOf c n) : (storeChips chips n data s).slot j = s.slot j := by
  have one : ∀ (c : Nat) (u : State), c < 4 → (storeChip chips n data c u).slot j = u.slot j := by
    intro c u hc
    unfold storeChip
    split
    · next hb => exact slot_setSlot_other (h c hc hb)
    · rfl
  unfold storeChips
  rw [one 3 _ (by decide), one 2 _ (by decide), one 1 _ (by decide), one 0 _ (by decide)]

/-- A register other than the stored one, in the FBI. -/
theorem storeChips_fbiReg {s : State} {chips : ChipSet} {n m : RegNum} {data : Word} (h : m ≠ n) :
    (storeChips chips n data s).fbiReg m = s.fbiReg m :=
  slot_storeChips_other fun _ _ _ e => h (slotOf_inj e).2

/-- A register other than the stored one, in a TMU's slice. -/
theorem storeChips_tmuReg {s : State} {chips : ChipSet} {n m : RegNum} {data : Word} {u : TmuId} (h : m ≠ n) :
    (storeChips chips n data s).tmuReg u m = s.tmuReg u m :=
  slot_storeChips_other fun _ _ _ e => h (slotOf_inj e).2

/-! ### Changes by chip set -/

/-- What an FBI update does: the iterators change when the chip set has the FBI (40_register_access.md R175). -/
theorem updateFbi_eq (chips : ChipSet) (f : FbiIter → FbiIter) (s : State) :
    updateFbi chips f s = { s with fbi := if chips.getLsbD 0 then f s.fbi else s.fbi } := by
  unfold updateFbi bit
  split <;> rfl

/-- What a TMU update does: each TMU changes when the chip set has it (40_register_access.md R175, R178, R179). -/
theorem updateTmus_eq (chips : ChipSet) (f : Tmu → Tmu) (s : State) :
    updateTmus chips f s =
      { s with tmu0 := if chips.getLsbD 1 then f s.tmu0 else s.tmu0,
               tmu1 := if chips.getLsbD 2 then f s.tmu1 else s.tmu1 } := by
  unfold updateTmus updateTmu bit chipOf
  by_cases h1 : chips.getLsbD 1 = true <;> by_cases h2 : chips.getLsbD 2 = true <;>
    simp only [h1, h2, if_true] <;> rfl

/-! ### Sequencing -/

/-- `andThen` answers a next state exactly when both parts do. -/
theorem andThen_eq_next {o : Out} {f : State → Out} {t : State} :
    andThen o f = .next t ↔ ∃ s, o = .next s ∧ f s = .next t := by
  cases o <;> simp [andThen]

@[simp] theorem andThen_next (s : State) (f : State → Out) : andThen (.next s) f = f s := rfl

@[simp] theorem foldOut_nil {α : Type} (f : α → State → Out) (s : State) : foldOut f [] s = .next s := rfl

@[simp] theorem foldOut_cons {α : Type} (f : α → State → Out) (a : α) (l : List α) (s : State) :
    foldOut f (a :: l) s = andThen (f a s) (foldOut f l) := rfl

@[simp] theorem foldState_nil {α : Type} (f : α → State → State) (s : State) : foldState f [] s = s := rfl

@[simp] theorem foldState_cons {α : Type} (f : α → State → State) (a : α) (l : List α) (s : State) :
    foldState f (a :: l) s = foldState f l (f a s) := rfl

/-- A relation that is reflexive, transitive and kept by each step holds across a fold. -/
theorem foldOut_rel {α : Type} {f : α → State → Out} {R : State → State → Prop} (hr : ∀ s, R s s)
    (ht : ∀ a b c, R a b → R b c → R a c) (hf : ∀ a s t, f a s = .next t → R s t) {l : List α} {s t : State}
    (h : foldOut f l s = .next t) : R s t := by
  induction l generalizing s with
  | nil => cases h; exact hr _
  | cons a l ih =>
    obtain ⟨u, h1, h2⟩ := andThen_eq_next.1 h
    exact ht _ _ _ (hf a s u h1) (ih h2)

/-- A property of the state that each step keeps holds after a fold. -/
theorem foldOut_inv {α : Type} {f : α → State → Out} {P : State → Prop}
    (hf : ∀ a s t, P s → f a s = .next t → P t) {l : List α} {s t : State} (hs : P s)
    (h : foldOut f l s = .next t) : P t := by
  induction l generalizing s with
  | nil => cases h; exact hs
  | cons a l ih =>
    obtain ⟨u, h1, h2⟩ := andThen_eq_next.1 h
    exact ih (hf a s u hs h1) h2

/-- A fold of steps that all complete under a kept property completes. -/
theorem foldOut_total {α : Type} {f : α → State → Out} {P : State → Prop}
    (hf : ∀ a s, P s → ∃ t, f a s = .next t ∧ P t) (l : List α) {s : State} (hs : P s) :
    ∃ t, foldOut f l s = .next t ∧ P t := by
  induction l generalizing s with
  | nil => exact ⟨s, rfl, hs⟩
  | cons a l ih =>
    obtain ⟨u, h1, h2⟩ := hf a s hs
    obtain ⟨t, h3, h4⟩ := ih h2
    exact ⟨t, by simp [h1, h3], h4⟩

/-- A property that each update keeps holds after a fold of updates. -/
theorem foldState_inv {α : Type} {f : α → State → State} {P : State → Prop} (hf : ∀ a s, P s → P (f a s))
    {l : List α} {s : State} (hs : P s) : P (foldState f l s) := by
  induction l generalizing s with
  | nil => exact hs
  | cons a l ih => exact ih (hf a s hs)

/-! ### The write and read paths -/

/-- Everything a register write can do (40_register_access.md R170): a refusal, one of three logged drops, or the store
and the handler. -/
theorem regWrite_cases (n : RegNum) (chipsel : ChipSet) (data : Word) (handler : ChipSet → Word → State → Out)
    (s : State) :
    let chips := effectiveChips chipsel s.cfg.chipmask
    (undescribed s.cfg.gen n = true ∧ regWrite n chipsel data handler s = .refused (.undescribedRegister n)) ∨
    (undescribed s.cfg.gen n = false ∧
      (((accessFlags s.cfg.gen n).w = false ∧ regWrite n chipsel data handler s = dropWrite (.writeNotAllowed n data) s) ∨
      ((accessFlags s.cfg.gen n).w = true ∧
        ((chips = 0#4 ∧ regWrite n chipsel data handler s = dropWrite (.chipDisabled n) s) ∨
        (chips ≠ 0#4 ∧
          ((isInitReg n = true ∧ s.cfg.initEnable = false ∧
              regWrite n chipsel data handler s = dropWrite (.initDisabled n) s) ∨
          ((isInitReg n = false ∨ s.cfg.initEnable = true) ∧
              regWrite n chipsel data handler s = handler chips data (storeChips chips n data s)))))))) := by
  intro chips
  unfold regWrite
  by_cases h1 : undescribed s.cfg.gen n = true
  · exact .inl ⟨h1, by simp [h1]⟩
  · refine .inr ⟨by simpa using h1, ?_⟩
    by_cases h2 : (accessFlags s.cfg.gen n).w = true
    · refine .inr ⟨h2, ?_⟩
      by_cases h3 : chips = 0#4
      · exact .inl ⟨h3, by simp only [chips] at h3; simp [h1, h2, h3]⟩
      · refine .inr ⟨h3, ?_⟩
        by_cases h4 : isInitReg n = true
        · by_cases h5 : s.cfg.initEnable = true
          · exact .inr ⟨.inr h5, by simp only [chips] at h3; simp [h1, h2, h3, h5, chips]⟩
          · refine .inl ⟨h4, by simpa using h5, ?_⟩
            simp only [chips] at h3
            simp [h1, h2, h3, h4, h5]
        · exact .inr ⟨.inl (by simpa using h4), by simp only [chips] at h3; simp [h1, h2, h3, h4, chips]⟩
    · exact .inl ⟨by simpa using h2, by simp [h1, h2]⟩

/-- Everything a register read can do (40_register_access.md R180). -/
theorem regRead_cases (n : RegNum) (value : State → Word) (s : State) :
    ((accessFlags s.cfg.gen n).r = true ∧ regRead n value s = .next { s with readData := value s }) ∨
    ((accessFlags s.cfg.gen n).r = false ∧
      regRead n value s = .next { s with log := s.log ++ [.readNotAllowed n], readData := allOnes }) := by
  unfold regRead
  by_cases h : (accessFlags s.cfg.gen n).r = true
  · exact .inl ⟨h, by simp [h, answerRead]⟩
  · exact .inr ⟨by simpa using h, by simp [h, rejectRead, answerRead, logEvent]⟩

end Sys2Proof.Machine
end

