-- ==== Sys2Proof/Laws/Access.lean ====
section
/-! SUPPORT. The register write and read as the claims see them: the open write stores the slots and runs the handler. -/

namespace Sys2Proof.Machine

/-- The slots after the store of every chip (40_register_access.md R174). -/
theorem slotsStored_storeChips {s : State} {chips : ChipSet} {n : RegNum} {data : Word} (h : tableWf 0 s.regs = true) :
    SlotsStored s.regs (storeChips chips n data s).regs chips n data :=
  ⟨storeChips_wf h, fun _ hc _ => slot_storeChips h hc⟩

/-- A write that passes every check of 40_register_access.md R170 is the store and the handler. -/
theorem storedReg_write {n : RegNum} {handler : ChipSet → Word → State → Out} {cs : ChipSet} {d : Word} {s : State}
    (hu : undescribed s.cfg.gen n = false) (hw : (accessFlags s.cfg.gen n).w = true)
    (hc : effectiveChips cs s.cfg.chipmask ≠ 0#4) (hi : isInitReg n = false ∨ s.cfg.initEnable = true) :
    storedReg n handler (.write cs d) s =
      handler (effectiveChips cs s.cfg.chipmask) d (storeChips (effectiveChips cs s.cfg.chipmask) n d s) := by
  have hni : ¬ (isInitReg n = true ∧ ¬ s.cfg.initEnable = true) := by
    rintro ⟨h1, h2⟩
    rcases hi with h | h
    · simp [h] at h1
    · exact h2 h
  simp only [storedReg, regWrite, hu, hw, hc, if_neg hni]
  simp

/-- A read that has the R flag answers the FBI slot (40_register_access.md R180, R181). -/
theorem storedReg_read {n : RegNum} {handler : ChipSet → Word → State → Out} {s : State}
    (hr : (accessFlags s.cfg.gen n).r = true) :
    storedReg n handler .read s = .next { s with readData := s.fbiReg n } := by
  simp [storedReg, regRead, hr, answerRead]

/-- A register's slots other than those stored are unchanged. -/
theorem SlotsStored.other {old new : Table Word} {chips : ChipSet} {n m : RegNum} {data : Word} {c : Nat}
    (h : SlotsStored old new chips n data) (hc : c < 4) (hm : m ≠ n) :
    readTable 0 new (slotOf c m) = readTable 0 old (slotOf c m) := by
  rw [h.2 c hc m, if_neg (by simp [hm])]

end Sys2Proof.Machine
end

