-- ==== Sys2Proof/Laws/Layout.lean ====
section
/-! SUPPORT. What the layout and swap operations can do, said once each. -/

namespace Sys2Proof.Machine

/-- The layout a state's init registers ask for (10_state.md R69). -/
def State.layout (s : State) : Surfaces :=
  fbLayout s.cfg.gen (2 ^ s.cfg.fbBits) s.fbiInit1 s.fbiInit2 s.fbiInit3 s.fbiInit5

/-- A memory-layout write changes the layout and, when an index names a NONE surface, the two indices
(40_register_access.md R176). -/
theorem relayout_eq (s : State) :
    relayout s = { s with
      surf := s.layout
      swap := if s.layout.rgb s.swap.front = none ∨ s.layout.rgb s.swap.back = none then
        { s.swap with front := 0, back := 1 } else s.swap } := by
  unfold relayout State.layout
  dsimp only
  split <;> rfl

/-- A swap changes the swap state and emits DisplaySwap (44_commands.md R371). -/
theorem swapBuffers_frame (s : State) :
    swapBuffers s = { s with swap := (swapBuffers s).swap,
                             hostEvents := s.hostEvents ++ [.displaySwap (swapBuffers s).swap.front] } := rfl

@[simp] theorem swapBuffers_vblankCount (s : State) : (swapBuffers s).swap.vblankCount = 0 := rfl
@[simp] theorem swapBuffers_pending (s : State) : (swapBuffers s).swap.pending = false := rfl
@[simp] theorem swapBuffers_interval (s : State) : (swapBuffers s).swap.interval = s.swap.interval := rfl
@[simp] theorem swapBuffers_dontSwap (s : State) : (swapBuffers s).swap.dontSwap = s.swap.dontSwap := rfl

/-- With two colour surfaces a swap keeps both indices below 2 (44_commands.md R371; log entry 29). -/
theorem swapBuffers_two {s : State} (h : s.surf.rgb2 = none) (hf : s.swap.front ≠ 2) (hb : s.swap.back ≠ 2) :
    (swapBuffers s).swap.front ≠ 2 ∧ (swapBuffers s).swap.back ≠ 2 := by
  have key : ∀ f b : Fin 3, f ≠ 2 → b ≠ 2 → 1 - f ≠ 2 ∧ (1 - (1 - f)) ≠ 2 := by decide
  have hk := key _ _ hf hb
  simp only [swapBuffers, emit, h, if_true]
  by_cases hd : s.swap.dontSwap = true
  · simp [hd, hf, hb]
  · simp only [hd]
    exact hk

end Sys2Proof.Machine
end

