-- ==== Sys2Proof/Laws/Dispatch.lean ====
section
/-! SUPPORT. The form of every transaction: which request encodes it and which access path runs it. -/

namespace Sys2Proof

/-- The fields of a register address (30_encoding.md R131). -/
theorem regAddr_num (c : ChipSet) (n : RegNum) : (regAddr c n).extractLsb' 2 8 = n := by
  simp only [regAddr]
  ext i hi
  simp only [BitVec.getElem_extractLsb', BitVec.getLsbD_append]
  interval_cases i <;> simp

theorem regAddr_chips (c : ChipSet) (n : RegNum) : (regAddr c n).extractLsb' 10 4 = c := by
  simp only [regAddr]
  ext i hi
  simp only [BitVec.getElem_extractLsb', BitVec.getLsbD_append]
  interval_cases i <;> simp

theorem regAddr_space (c : ChipSet) (n : RegNum) :
    (regAddr c n).getLsbD 23 = false ∧ (regAddr c n).getLsbD 22 = false ∧ (regAddr c n).getLsbD 21 = false := by
  simp only [regAddr, BitVec.getLsbD_append]
  simp

/-- The fields of an LFB address (30_encoding.md R135). -/
theorem lfbAddr_fields (l : BitVec 20) :
    (lfbAddr l).getLsbD 23 = false ∧ (lfbAddr l).getLsbD 22 = true ∧ (lfbAddr l).extractLsb' 2 20 = l := by
  refine ⟨by simp only [lfbAddr, BitVec.getLsbD_append]; simp, by simp only [lfbAddr, BitVec.getLsbD_append]; simp, ?_⟩
  simp only [lfbAddr]
  ext i hi
  simp only [BitVec.getElem_extractLsb', BitVec.getLsbD_append]
  interval_cases i <;> simp

/-- The fields of a texture address (30_encoding.md R136). -/
theorem texAddr_fields (unit : BitVec 2) (lod : BitVec 4) (row : BitVec 8) (sword : BitVec 7) :
    (texAddr unit lod row sword).getLsbD 23 = true ∧ (texAddr unit lod row sword).extractLsb' 21 2 = unit ∧
      (texAddr unit lod row sword).extractLsb' 17 4 = lod ∧ (texAddr unit lod row sword).extractLsb' 9 8 = row ∧
      (texAddr unit lod row sword).extractLsb' 2 7 = sword := by
  refine ⟨by simp only [texAddr, BitVec.getLsbD_append]; simp, ?_, ?_, ?_, ?_⟩ <;>
  · simp only [texAddr]
    ext i hi
    simp only [BitVec.getElem_extractLsb', BitVec.getLsbD_append]
    interval_cases i <;> simp

/-- A register request determines its register number and its access. -/
theorem regRequest_inj {n m : RegNum} {a b : RegAccess} (h : regRequest n a = regRequest m b) : n = m ∧ a = b := by
  cases a <;> cases b <;> simp only [regRequest, BusRequest.mk.injEq, reduceCtorEq, false_and] at h
  · exact ⟨by rw [← regAddr_num 0 n, h.2.2.1, regAddr_num], rfl⟩
  · refine ⟨by rw [← regAddr_num _ n, h.2.2.1, regAddr_num], ?_⟩
    have hc := congrArg (BitVec.extractLsb' 10 4) h.2.2.1
    rw [regAddr_chips, regAddr_chips] at hc
    rw [hc, h.2.2.2]

/-- No register request is an LFB or a texture request. -/
theorem regRequest_space (n : RegNum) (a : RegAccess) :
    (regRequest n a).addr.getLsbD 23 = false ∧ (regRequest n a).addr.getLsbD 22 = false := by
  cases a <;> exact ⟨(regAddr_space _ n).1, (regAddr_space _ n).2.1⟩

namespace Machine

/-- A transaction of register `n` with access `a` runs on the stored or on the computed path; a computed register has no W
flag (10_state.md R30). -/
def RunsOn (i : Instr) (n : RegNum) (a : RegAccess) : Prop :=
  (∃ handler, ∀ s, exec i s = storedReg n handler a s) ∨
    ((∀ gen, (accessFlags gen n).w = false ∧ undescribed gen n = false) ∧
      ∃ value, ∀ s, exec i s = computedReg n value a s)

/-- Every transaction is an access to a register, or acts on the linear frame buffer or on texture memory. -/
theorem instr_cases (i : Instr) :
    (∃ n a, encode i = regRequest n a ∧ RunsOn i n a) ∨ (∃ l data, i = .lfbWr l data) ∨ (∃ l, i = .lfbRd l) ∨
      (∃ unit lod row sword data, i = .texWr unit lod row sword data) ∨
      (∃ unit lod row sword, i = .texRd unit lod row sword) := by
  have computed : ∀ {n : RegNum}, ((accessFlags .v1 n).w = false ∧ undescribed .v1 n = false) →
      ((accessFlags .v2 n).w = false ∧ undescribed .v2 n = false) →
      ∀ gen, (accessFlags gen n).w = false ∧ undescribed gen n = false := by
    intro n h1 h2 gen
    cases gen
    · exact h1
    · exact h2
  cases i
  case lfbWr l data => exact .inr (.inl ⟨l, data, rfl⟩)
  case lfbRd l => exact .inr (.inr (.inl ⟨l, rfl⟩))
  case texWr unit lod row sword data => exact .inr (.inr (.inr (.inl ⟨unit, lod, row, sword, data, rfl⟩)))
  case texRd unit lod row sword => exact .inr (.inr (.inr (.inr ⟨unit, lod, row, sword, rfl⟩)))
  case status a => exact .inl ⟨_, a, rfl, .inr ⟨computed (by decide) (by decide), _, fun _ => rfl⟩⟩
  case vRetrace a => exact .inl ⟨_, a, rfl, .inr ⟨computed (by decide) (by decide), _, fun _ => rfl⟩⟩
  case hvRetrace a => exact .inl ⟨_, a, rfl, .inr ⟨computed (by decide) (by decide), _, fun _ => rfl⟩⟩
  case fbiSwapHistory a => exact .inl ⟨_, a, rfl, .inr ⟨computed (by decide) (by decide), _, fun _ => rfl⟩⟩
  case fbiPixelsIn a => exact .inl ⟨_, a, rfl, .inr ⟨computed (by decide) (by decide), _, fun _ => rfl⟩⟩
  case fbiChromaFail a => exact .inl ⟨_, a, rfl, .inr ⟨computed (by decide) (by decide), _, fun _ => rfl⟩⟩
  case fbiZfuncFail a => exact .inl ⟨_, a, rfl, .inr ⟨computed (by decide) (by decide), _, fun _ => rfl⟩⟩
  case fbiAfuncFail a => exact .inl ⟨_, a, rfl, .inr ⟨computed (by decide) (by decide), _, fun _ => rfl⟩⟩
  case fbiPixelsOut a => exact .inl ⟨_, a, rfl, .inr ⟨computed (by decide) (by decide), _, fun _ => rfl⟩⟩
  case fbiTrianglesOut a => exact .inl ⟨_, a, rfl, .inr ⟨computed (by decide) (by decide), _, fun _ => rfl⟩⟩
  case blt n a => exact .inl ⟨n, a, rfl, .inl ⟨_, fun _ => rfl⟩⟩
  all_goals rename_i a; exact .inl ⟨_, a, rfl, .inl ⟨_, fun _ => rfl⟩⟩

/-- A transaction encoded as an access to register `n` runs on that register's path. -/
theorem runsOn_of_encode {i : Instr} {n : RegNum} {a : RegAccess} (h : encode i = regRequest n a) : RunsOn i n a := by
  rcases instr_cases i with ⟨m, b, he, hr⟩ | ⟨l, d, rfl⟩ | ⟨l, rfl⟩ | ⟨u, o, r, w, d, rfl⟩ | ⟨u, o, r, w, rfl⟩
  · obtain ⟨rfl, rfl⟩ := regRequest_inj (he.symm.trans h)
    exact hr
  all_goals
    have hs := regRequest_space n a
    rw [← h] at hs
  · simp only [encode, (lfbAddr_fields l).2.1] at hs; simp at hs
  · simp only [encode, (lfbAddr_fields l).2.1] at hs; simp at hs
  · simp only [encode, (texAddr_fields u o r w).1] at hs; simp at hs
  · simp only [encode, (texAddr_fields u o r w).1] at hs; simp at hs

end Machine

end Sys2Proof
end

