-- ==== Sys2Proof/Laws/Pixel.lean ====
section
/-! SUPPORT. What a pixel can do, said once: its exits, its frame, when it completes, and its stops. -/

namespace Sys2Proof.Machine

/-! ### The frame of rendering -/

/-- Nothing changed but statistics, frame-buffer bytes and, in rotate mode, the stipple register. -/
def RenderOnly (s t : State) : Prop :=
  t = { s with regs := t.regs, stats := t.stats, fbram := t.fbram } ∧
    ∀ j, (j ≠ slotOf 0 0x50 ∨ stippleRotates s.fbzMode = false) → t.slot j = s.slot j

theorem RenderOnly.refl (s : State) : RenderOnly s s := ⟨rfl, fun _ _ => rfl⟩

/-- A register of the FBI other than stipple. -/
theorem RenderOnly.fbiReg {s t : State} (h : RenderOnly s t) {n : RegNum} (hn : n ≠ 0x50) : t.fbiReg n = s.fbiReg n :=
  h.2 _ (.inl fun e => hn (slotOf_inj e).2)

/-- A register of a TMU's slice. -/
theorem RenderOnly.tmuReg {s t : State} (h : RenderOnly s t) (u : TmuId) (n : RegNum) : t.tmuReg u n = s.tmuReg u n :=
  h.2 _ (.inl fun e => by cases u <;> exact absurd (slotOf_inj e).1 (by decide))

theorem RenderOnly.fbzMode {s t : State} (h : RenderOnly s t) : t.fbzMode = s.fbzMode := h.fbiReg (by decide)

theorem RenderOnly.fbzColorPath {s t : State} (h : RenderOnly s t) : t.fbzColorPath = s.fbzColorPath :=
  h.fbiReg (by decide)

theorem RenderOnly.trans {s t u : State} (h : RenderOnly s t) (k : RenderOnly t u) : RenderOnly s u := by
  refine ⟨k.1.trans (by rw [h.1]), fun j hj => ?_⟩
  rw [k.2 j (by rwa [h.fbzMode]), h.2 j hj]

theorem RenderOnly.cfg {s t : State} (h : RenderOnly s t) : t.cfg = s.cfg := by rw [h.1]
theorem RenderOnly.surf {s t : State} (h : RenderOnly s t) : t.surf = s.surf := by rw [h.1]
theorem RenderOnly.swap {s t : State} (h : RenderOnly s t) : t.swap = s.swap := by rw [h.1]
theorem RenderOnly.fbi {s t : State} (h : RenderOnly s t) : t.fbi = s.fbi := by rw [h.1]
theorem RenderOnly.tmu {s t : State} (h : RenderOnly s t) (u : TmuId) : t.tmu u = s.tmu u := by
  rw [h.1]; cases u <;> rfl
theorem RenderOnly.log {s t : State} (h : RenderOnly s t) : t.log = s.log := by rw [h.1]
theorem RenderOnly.cacheStates {s t : State} (h : RenderOnly s t) : t.cacheStates = s.cacheStates := by rw [h.1]

theorem RenderOnly.screenY {s t : State} (h : RenderOnly s t) (y : Int) : screenY t y = screenY s y := by
  unfold Machine.screenY flipRow
  rw [h.fbzMode, h.surf]

theorem RenderOnly.pixelAddr {s t : State} (h : RenderOnly s t) (base : Nat) (scry x : Int) :
    pixelAddr t base scry x = pixelAddr s base scry x := by
  unfold Machine.pixelAddr pixelOffset
  rw [h.surf]

theorem RenderOnly.pixelByte {s t : State} (h : RenderOnly s t) (base : Nat) (scry x : Int) (a : Nat) :
    t.pixelByte base scry x a ↔ s.pixelByte base scry x a := by
  unfold State.pixelByte
  rw [h.pixelAddr, h.cfg]

/-- A change of statistics alone. -/
theorem RenderOnly.stats (s : State) (k : Stats) : RenderOnly s { s with stats := k } := ⟨rfl, fun _ _ => rfl⟩

/-- A 16-bit write to the frame buffer. -/
theorem RenderOnly.fbWrite16 (a : Int) (v : Half) (s : State) : RenderOnly s (fbWrite16 a v s) := ⟨rfl, fun _ _ => rfl⟩

/-- The stipple step. -/
theorem stippleStep_only (s : State) : RenderOnly s (stippleStep s) := by
  unfold stippleStep
  split
  · next h =>
    refine ⟨rfl, fun j hj => ?_⟩
    rcases hj with hj | hj
    · exact slot_setSlot_other hj
    · rw [h] at hj; cases hj
  · exact .refl s

@[simp] theorem stippleStep_stats (s : State) : (stippleStep s).stats = s.stats := by unfold stippleStep; split <;> rfl
@[simp] theorem stippleStep_fbram (s : State) : (stippleStep s).fbram = s.fbram := by unfold stippleStep; split <;> rfl

/-! ### What a stretch of rendering paints -/

/-- `k` pixels were counted in, no triangle was counted, and bytes outside `P` are unchanged. -/
structure Painted (s t : State) (k : Nat) (P : Nat → Prop) : Prop where
  only : RenderOnly s t
  triangles : t.stats.trianglesOut = s.stats.trianglesOut
  count : t.stats.pixelsIn = s.stats.pixelsIn + BitVec.ofNat 24 k
  bytes : ∀ a, ¬ P a → t.fbByte a = s.fbByte a

theorem Painted.refl (s : State) : Painted s s 0 fun _ => False := ⟨.refl s, rfl, by simp, fun _ _ => rfl⟩

theorem Painted.trans {s t u : State} {k l : Nat} {P Q : Nat → Prop} (h : Painted s t k P) (h' : Painted t u l Q) :
    Painted s u (k + l) fun a => P a ∨ Q a :=
  ⟨h.only.trans h'.only, h'.triangles.trans h.triangles,
    by rw [h'.count, h.count, BitVec.ofNat_add, BitVec.add_assoc],
    fun a ha => (h'.bytes a fun q => ha (.inr q)).trans (h.bytes a fun p => ha (.inl p))⟩

theorem Painted.mono {s t : State} {k : Nat} {P Q : Nat → Prop} (h : Painted s t k P) (hpq : ∀ a, P a → Q a) :
    Painted s t k Q :=
  ⟨h.only, h.triangles, h.count, fun a ha => h.bytes a fun p => ha (hpq a p)⟩

/-- Steps that complete and paint under a kept property: the fold completes and paints their union. -/
theorem foldOut_painted {α : Type} {f : α → State → Out} {w : α → Nat} {P : α → Nat → Prop} {R : State → Prop}
    (hf : ∀ a s, R s → ∃ t, f a s = .next t ∧ Painted s t (w a) (P a) ∧ R t) (l : List α) {s : State} (hs : R s) :
    ∃ t, foldOut f l s = .next t ∧ Painted s t (l.map w).sum (fun b => ∃ a ∈ l, P a b) ∧ R t := by
  induction l generalizing s with
  | nil => exact ⟨s, rfl, (Painted.refl s).mono (fun _ h => h.elim), hs⟩
  | cons a l ih =>
    obtain ⟨t, h1, h2, h3⟩ := hf a s hs
    obtain ⟨u, k1, k2, k3⟩ := ih h3
    refine ⟨u, by simp [h1, k1], ?_, k3⟩
    simp only [List.map_cons, List.sum_cons]
    refine (h2.trans k2).mono ?_
    rintro b (hb | ⟨c, hc, hb⟩)
    · exact ⟨a, by simp, hb⟩
    · exact ⟨c, by simp [hc], hb⟩

/-! ### The exits of a pixel -/

/-- The stages after the texture stage end in a failed test or in the write (43_pixel.md R302). -/
theorem shadePixel_cases (p : PixelIn) (depth : Int) (texel : Argb) (s : State) :
    shadePixel p depth texel s = failChroma s ∨ shadePixel p depth texel s = failAfunc s ∨
      ∃ c, shadePixel p depth texel s = writePixel p c depth s := by
  unfold shadePixel
  dsimp only
  split
  · exact .inl rfl
  · split
    · exact .inr (.inl rfl)
    · split
      · exact .inr (.inl rfl)
      · exact .inr (.inr ⟨_, rfl⟩)

/-- Everything a pixel that completes can have done (43_pixel.md R302). -/
theorem pixel_next {p : PixelIn} {s t : State} (h : pixel p s = .next t) :
    let u := stippleStep (addPixelsIn 1 s)
    t = failStipple u ∨ t = failZfunc u ∨ t = failChroma u ∨ t = failAfunc u ∨
      ∃ c, t = writePixel p c (depthValue u p.z p.w) u := by
  unfold pixel at h
  dsimp only at h ⊢
  split at h
  · cases h; exact .inl rfl
  · split at h
    · cases h; exact .inr (.inl rfl)
    · split at h
      · cases h
      · cases h
        rename_i texel _
        rcases shadePixel_cases p (depthValue (stippleStep (addPixelsIn 1 s)) p.z p.w) texel
          (stippleStep (addPixelsIn 1 s)) with h | h | ⟨c, h⟩
        · exact .inr (.inr (.inl h))
        · exact .inr (.inr (.inr (.inl h)))
        · exact .inr (.inr (.inr (.inr ⟨c, h⟩)))

/-- The bytes the write stage of a pixel may store to (43_pixel.md R351). -/
def PixelIn.stores (p : PixelIn) (s : State) (a : Nat) : Prop :=
  (fbzRgbMask s.fbzMode = true ∧ s.pixelByte p.base p.scry p.x a) ∨
    ∃ aux, s.surf.aux = some aux ∧ fbzAuxMask s.fbzMode = true ∧ p.auxWrite = true ∧ s.pixelByte aux p.scry p.x a

theorem RenderOnly.stores {s t : State} (h : RenderOnly s t) (p : PixelIn) (a : Nat) : p.stores t a ↔ p.stores s a := by
  unfold PixelIn.stores
  simp only [h.fbzMode, h.surf, h.pixelByte]

theorem writeColor_only (p : PixelIn) (c : Argb) (s : State) : RenderOnly s (writeColor p c s) := by
  unfold writeColor
  split
  · exact .fbWrite16 _ _ s
  · exact .refl s

theorem writeAux_only (p : PixelIn) (a depth : Int) (s : State) : RenderOnly s (writeAux p a depth s) := by
  unfold writeAux
  split
  · exact .refl s
  · split
    · exact .fbWrite16 _ _ s
    · exact .refl s

@[simp] theorem writeColor_stats (p : PixelIn) (c : Argb) (s : State) : (writeColor p c s).stats = s.stats := by
  unfold writeColor; split <;> rfl

@[simp] theorem writeAux_stats (p : PixelIn) (a depth : Int) (s : State) : (writeAux p a depth s).stats = s.stats := by
  unfold writeAux; split
  · rfl
  · split <;> rfl

/-- The write stage changes no byte outside those of the pixel. -/
theorem writePixel_bytes {p : PixelIn} {c : Argb} {depth : Int} {s : State} {a : Nat} (ha : ¬ p.stores s a) :
    (writePixel p c depth s).fbByte a = s.fbByte a := by
  have hcol : (writeColor p c s).fbByte a = s.fbByte a := by
    unfold writeColor
    split
    · next h =>
      refine fbWrite16_other (fun e => ha (.inl ⟨h, .inl e⟩)) (fun e => ha (.inl ⟨h, .inr e⟩))
    · rfl
  have haux : (writeAux p c.a depth (writeColor p c s)).fbByte a = (writeColor p c s).fbByte a := by
    have ho := writeColor_only p c s
    unfold writeAux
    split
    · rfl
    · next aux hx =>
      split
      · next hm =>
        rw [ho.surf] at hx
        rw [ho.fbzMode] at hm
        refine fbWrite16_other (fun e => ?_) (fun e => ?_)
        · exact ha (.inr ⟨aux, hx, hm.1, hm.2, (ho.pixelByte _ _ _ _).1 (.inl e)⟩)
        · exact ha (.inr ⟨aux, hx, hm.1, hm.2, (ho.pixelByte _ _ _ _).1 (.inr e)⟩)
      · rfl
  exact haux.trans hcol

theorem writePixel_only (p : PixelIn) (c : Argb) (depth : Int) (s : State) : RenderOnly s (writePixel p c depth s) :=
  ((writeColor_only p c s).trans (writeAux_only p c.a depth _)).trans (.stats _ _)

@[simp] theorem writePixel_stats (p : PixelIn) (c : Argb) (depth : Int) (s : State) :
    (writePixel p c depth s).stats = { s.stats with pixelsOut := s.stats.pixelsOut + 1 } := by
  simp [writePixel, addPixelsOut]

/-- A pixel that completes counts in once and changes no byte outside its own. -/
theorem pixel_painted {p : PixelIn} {s t : State} (h : pixel p s = .next t) : Painted s t 1 (p.stores s) := by
  have hu : RenderOnly s (stippleStep (addPixelsIn 1 s)) := (RenderOnly.stats s _).trans (stippleStep_only _)
  have hb : ∀ a, (stippleStep (addPixelsIn 1 s)).fbByte a = s.fbByte a := fun a => by
    simp [State.fbByte]
  rcases pixel_next h with rfl | rfl | rfl | rfl | ⟨c, rfl⟩
  · exact ⟨hu.trans (.stats _ _), by simp [failStipple, addPixelsIn], by simp [failStipple, addPixelsIn], fun a _ => hb a⟩
  · exact ⟨hu.trans (.stats _ _), by simp [failZfunc, addPixelsIn], by simp [failZfunc, addPixelsIn], fun a _ => hb a⟩
  · exact ⟨hu.trans (.stats _ _), by simp [failChroma, addPixelsIn], by simp [failChroma, addPixelsIn], fun a _ => hb a⟩
  · exact ⟨hu.trans (.stats _ _), by simp [failAfunc, addPixelsIn], by simp [failAfunc, addPixelsIn], fun a _ => hb a⟩
  · refine ⟨hu.trans (writePixel_only _ _ _ _), by simp [addPixelsIn], by simp [addPixelsIn], fun a ha => ?_⟩
    rw [writePixel_bytes fun k => ha ((hu.stores p a).1 k), hb]

/-- A pixel that completes changes nothing beyond the frame of rendering. -/
theorem pixel_only {p : PixelIn} {s t : State} (h : pixel p s = .next t) : RenderOnly s t := (pixel_painted h).only

/-! ### When a pixel completes and when it stops -/

/-- No LOD up to the unit's lodmax selects level 9 (42_texture.md R257). -/
def Tmu.levelsExist (t : Tmu) : Prop := t.lodmax < 8 * 256 ∨ (t.lodmax < 9 * 256 ∧ bit t.lodmask 8 = true)

/-- A unit that samples can refuse with `r` (42_texture.md R254): (a) a separate filter, (c) a reserved format, (d) a LOD
that selects level 9. -/
def State.unitRefuses (s : State) (u : TmuId) (r : Refusal) : Prop :=
  (s.tmu u).lodmin < 8 * 256 ∧
    ((r = .separateRgbaFilter ∧ (s.tmu u).separateFilter s.cfg.gen = true) ∨
      (r = .reservedTexelFormat ∧ reservedFormat s.cfg.gen (tmFormat (s.textureMode u)) = true) ∨
      (r = .noSuchLevel ∧ ¬ (s.tmu u).levelsExist))

/-- The unit can sample every pixel. -/
def State.sampleReady (s : State) (u : TmuId) : Prop := ∀ r, ¬ s.unitRefuses u r

/-- A refusal of the texture stage comes from one of its active units. -/
def State.SampleRefusal (s : State) (ntmu : Nat) (r : Refusal) : Prop := ∃ u ∈ activeTmus ntmu, s.unitRefuses u r

theorem RenderOnly.unitRefuses {s t : State} (h : RenderOnly s t) {u : TmuId} {r : Refusal} :
    t.unitRefuses u r ↔ s.unitRefuses u r := by
  unfold State.unitRefuses State.textureMode
  rw [h.cfg, h.tmuReg, h.tmu]

theorem RenderOnly.sampleReady {s t : State} (h : RenderOnly s t) {u : TmuId} (hs : s.sampleReady u) :
    t.sampleReady u := fun r hr => hs r (h.unitRefuses.1 hr)

theorem RenderOnly.sampleRefusal {s t : State} (h : RenderOnly s t) {ntmu : Nat} {r : Refusal}
    (ht : t.SampleRefusal ntmu r) : s.SampleRefusal ntmu r := by
  obtain ⟨u, hu, hr⟩ := ht
  exact ⟨u, hu, h.unitRefuses.1 hr⟩

/-- A LOD below 8.0, or below 9.0 with level 8 present, selects a level (42_texture.md R257). -/
theorem selectLevel_some {t : Tmu} {lod : Int} (h : t.levelsExist) (hl : lod ≤ t.lodmax) :
    ∃ level, selectLevel t lod = some level := by
  have hi : (sar lod 8).toNat ≤ 7 ∨ ((sar lod 8).toNat = 8 ∧ bit t.lodmask 8 = true) := by
    unfold sar
    rcases h with h | ⟨h, h8⟩
    · have : lod / ((2 ^ 8 : Nat) : Int) < 8 := by omega
      exact .inl (by omega)
    · have : lod / ((2 ^ 8 : Nat) : Int) < 9 := by omega
      have : (lod / ((2 ^ 8 : Nat) : Int)).toNat ≤ 8 := by omega
      rcases Nat.lt_or_ge (lod / ((2 ^ 8 : Nat) : Int)).toNat 8 with k | k
      · exact .inl (by omega)
      · exact .inr ⟨by omega, h8⟩
  unfold selectLevel
  dsimp only
  rcases hi with hi | ⟨hi, h8⟩
  · split_ifs <;> first | omega | exact ⟨_, rfl⟩
  · rw [hi, if_pos h8]
    exact ⟨_, rfl⟩

theorem sample_error {s : State} {u : TmuId} {p : SamplePos} {r : Refusal} (h : sample s u p = .error r)
    (hm : (s.tmu u).lodmin < 8 * 256) (hp : p.lod ≤ (s.tmu u).lodmax) : s.unitRefuses u r := by
  refine ⟨hm, ?_⟩
  unfold sample at h
  dsimp only at h
  split at h
  · next hf => cases h; exact .inl ⟨rfl, hf⟩
  · split at h
    · next hl =>
      cases h
      refine .inr (.inr ⟨rfl, fun hn => ?_⟩)
      obtain ⟨level, he⟩ := selectLevel_some hn hp
      rw [he] at hl
      cases hl
    · split at h
      · next hf => cases h; exact .inr (.inl ⟨rfl, hf⟩)
      · split at h <;> cases h

theorem textureStage_error {s : State} {u : TmuId} {x y : Int} {c : TexCoord} {other : Argb} {r : Refusal}
    (h : textureStage s u x y c other = .error r) : s.unitRefuses u r := by
  unfold textureStage textureUnit at h
  dsimp only at h
  split at h
  · next hm =>
    split at h
    · next e =>
      cases h
      exact sample_error e hm (by simp only [samplePos, clampInt]; exact min_le_right _ _)
    · cases h
  · cases h

/-- The texture pipeline refuses only for a unit that is active. -/
theorem texturePipeline_error {s : State} {x y : Int} {i : TexIn} {r : Refusal}
    (h : texturePipeline s x y i = .error r) : s.SampleRefusal i.ntmu r := by
  have h0 : 1 ≤ i.ntmu → .t0 ∈ activeTmus i.ntmu := fun hn => by unfold activeTmus; split <;> simp_all
  have h1 : 2 ≤ i.ntmu → .t1 ∈ activeTmus i.ntmu := fun hn => by unfold activeTmus; split <;> simp_all
  unfold texturePipeline at h
  dsimp only at h
  split at h
  · next e =>
    split at e
    · next hn => cases h; exact ⟨_, h1 hn, textureStage_error e⟩
    · cases e
  · split at h
    · next hn => exact ⟨_, h0 hn, textureStage_error h⟩
    · cases h

/-- A pixel never faults, and refuses only in the texture stage of an active unit. -/
theorem pixel_stops (p : PixelIn) (s : State) :
    (∃ t, pixel p s = .next t) ∨ ∃ r, pixel p s = .refused r ∧ s.SampleRefusal p.tex.ntmu r := by
  have hu : RenderOnly s (stippleStep (addPixelsIn 1 s)) := (RenderOnly.stats s _).trans (stippleStep_only _)
  unfold pixel
  dsimp only
  split
  · exact .inl ⟨_, rfl⟩
  · split
    · exact .inl ⟨_, rfl⟩
    · split
      · next e => exact .inr ⟨_, rfl, hu.sampleRefusal (texturePipeline_error e)⟩
      · exact .inl ⟨_, rfl⟩

/-- A pixel completes when every active unit can sample. -/
theorem pixel_total {p : PixelIn} {s : State} (h : ∀ u ∈ activeTmus p.tex.ntmu, s.sampleReady u) :
    ∃ t, pixel p s = .next t := by
  rcases pixel_stops p s with ht | ⟨r, -, u, hu, hr⟩
  · exact ht
  · exact absurd hr (h u hu r)

end Sys2Proof.Machine
end

