-- ==== Sys2Proof/Laws/Raster.lean ====
section
/-! SUPPORT. What spans, scanlines and triangles can do, said once each. -/

namespace Sys2Proof.Machine

/-! ### Ranges of integers -/

theorem mem_intRange {lo hi x : Int} : x ∈ intRange lo hi ↔ lo ≤ x ∧ x < hi := by
  unfold intRange
  rw [List.mem_map]
  constructor
  · rintro ⟨k, hk, rfl⟩
    have := List.mem_range.1 hk
    omega
  · intro h
    exact ⟨(x - lo).toNat, List.mem_range.2 (by omega), by omega⟩

@[simp] theorem length_intRange (lo hi : Int) : (intRange lo hi).length = (hi - lo).toNat := by
  simp [intRange]

theorem sum_map_one {α : Type} (l : List α) : (l.map fun _ => 1).sum = l.length := by
  induction l with
  | nil => rfl
  | cons a l ih => simp only [List.map_cons, List.sum_cons, List.length_cons, ih, Nat.add_comm]

/-! ### Spans and scanlines -/

/-- The bytes of the pixels of row `y` from `xs` to `xe`. -/
def State.rowStores (s : State) (base : Nat) (y xs xe : Int) (a : Nat) : Prop :=
  ∃ x, xs ≤ x ∧ x < xe ∧ s.pixelStores (some base) x y a

theorem RenderOnly.pixelStores {s t : State} (h : RenderOnly s t) (base : Option Nat) (x y : Int) (a : Nat) :
    t.pixelStores base x y a ↔ s.pixelStores base x y a := by
  unfold State.pixelStores
  simp only [h.fbzMode, h.surf, h.pixelByte, h.screenY]

theorem RenderOnly.rowStores {s t : State} (h : RenderOnly s t) (base : Nat) (y xs xe : Int) (a : Nat) :
    t.rowStores base y xs xe a ↔ s.rowStores base y xs xe a := by
  unfold State.rowStores
  simp only [h.pixelStores]

/-- The pixels of a triangle store to their own bytes. -/
theorem trianglePixel_stores {s : State} {base ntmu : Nat} {x y : Int} {a : Nat}
    (h : (trianglePixel s base ntmu x y (screenY s y)).stores s a) : s.pixelStores (some base) x y a := by
  rcases h with ⟨hm, hb⟩ | ⟨aux, hx, hm, -, hb⟩
  · exact .inl ⟨base, rfl, hm, hb⟩
  · exact .inr ⟨aux, hx, hm, hb⟩

/-- Every active unit can sample. -/
def State.unitsReady (s : State) (ntmu : Nat) : Prop := ∀ u ∈ activeTmus ntmu, s.sampleReady u

theorem RenderOnly.unitsReady {s t : State} (h : RenderOnly s t) {ntmu : Nat} (hs : s.unitsReady ntmu) :
    t.unitsReady ntmu := fun u m => h.sampleReady (hs u m)

/-- A span completes when every active unit can sample, and paints its own pixels (43_pixel.md R300). -/
theorem drawSpan_painted {s : State} {base ntmu : Nat} {y xs xe : Int} (hs : s.unitsReady ntmu) :
    ∃ t, drawSpan base ntmu y (screenY s y) xs xe s = .next t ∧
      Painted s t (xe - xs).toNat (s.rowStores base y xs xe) := by
  obtain ⟨t, h1, h2, -⟩ := foldOut_painted (f := fun x s' => pixel (trianglePixel s' base ntmu x y (screenY s y)) s')
    (w := fun _ => 1) (P := fun x => s.pixelStores (some base) x y) (R := RenderOnly s)
    (fun x s' hr => by
      obtain ⟨t, ht⟩ := pixel_total (p := trianglePixel s' base ntmu x y (screenY s y)) (hr.unitsReady hs)
      have hp := pixel_painted ht
      refine ⟨t, ht, hp.mono fun a ha => ?_, hr.trans hp.only⟩
      rw [← hr.screenY] at ha
      exact (hr.pixelStores _ _ _ _).1 (trianglePixel_stores ha))
    (intRange xs xe) (RenderOnly.refl s)
  refine ⟨t, h1, ?_⟩
  rw [sum_map_one, length_intRange] at h2
  refine h2.mono ?_
  rintro a ⟨x, hx, ha⟩
  exact ⟨x, (mem_intRange.1 hx).1, (mem_intRange.1 hx).2, ha⟩

/-- Counting in pixels and clip failures paints nothing. -/
theorem painted_count (s : State) (k m : Nat) :
    Painted s (addClipFail m (addPixelsIn k s)) k fun _ => False :=
  ⟨.stats _ _, rfl, rfl, fun _ _ => rfl⟩

theorem painted_addPixelsIn (s : State) (k : Nat) : Painted s (addPixelsIn k s) k fun _ => False :=
  ⟨.stats _ _, rfl, rfl, fun _ _ => rfl⟩

/-- A scanline completes when every active unit can sample; every pixel of its span counts in, and it paints no others
(43_pixel.md R300). -/
theorem scanline_painted {s : State} {base ntmu : Nat} {y xs xe : Int} (hs : s.unitsReady ntmu) (hx : xs ≤ xe) :
    ∃ t, scanline base ntmu y xs xe s = .next t ∧ Painted s t (xe - xs).toNat (s.rowStores base y xs xe) := by
  unfold scanline
  dsimp only
  split
  · exact drawSpan_painted hs
  · split
    · exact ⟨_, rfl, (painted_count s _ _).mono fun _ h => h.elim⟩
    · generalize hxs : (if xs < s.clipLeft then min s.clipLeft xe else xs) = xs'
      generalize hxe : (if s.clipRight < xe then max s.clipRight xs' else xe) = xe'
      have b1 : xs ≤ xs' := by rw [← hxs]; split <;> omega
      have b2 : xs' ≤ xe := by rw [← hxs]; split <;> omega
      have b3 : xs' ≤ xe' := by rw [← hxe]; split <;> omega
      have b4 : xe' ≤ xe := by rw [← hxe]; split <;> omega
      have p1 := painted_addPixelsIn s ((xs' - xs) + (xe - xe')).toNat
      obtain ⟨t, h1, h2⟩ := drawSpan_painted (base := base) (y := y) (xs := xs') (xe := xe') (p1.only.unitsReady hs)
      rw [p1.only.screenY] at h1
      refine ⟨t, h1, ?_⟩
      have h3 := p1.trans h2
      rw [show ((xs' - xs) + (xe - xe')).toNat + (xe' - xs').toNat = (xe - xs).toNat by omega] at h3
      refine h3.mono ?_
      rintro a (h | h)
      · exact h.elim
      · obtain ⟨x, k1, k2, k3⟩ := (p1.only.rowStores _ _ _ _ _).1 h
        exact ⟨x, by omega, by omega, k3⟩

/-- The spans of a coverage run from left to right (41_triangle.md R241). -/
theorem coverage_ordered {f : FbiIter} {sp : Span} (h : sp ∈ coverage f) : sp.xs ≤ sp.xe := by
  unfold coverage at h
  split at h
  · split at h
    · cases h
    · obtain ⟨y, -, rfl⟩ := List.mem_map.1 h
      simp only [spanOf, clampInt]
      omega
  · cases h

/-- Rasterization completes when every active unit can sample; every covered pixel counts in (41_triangle.md R240). -/
theorem rasterize_painted {s : State} {base ntmu : Nat} (hs : s.unitsReady ntmu) :
    ∃ t, rasterize base ntmu s = .next t ∧
      Painted s t (coveredPixels s.fbi) fun a => ∃ sp ∈ coverage s.fbi, s.rowStores base sp.y sp.xs sp.xe a := by
  have key : ∀ l : List Span, (∀ sp ∈ l, sp.xs ≤ sp.xe) → ∀ s' : State, RenderOnly s s' →
      ∃ t, foldOut (fun sp s => scanline base ntmu sp.y sp.xs sp.xe s) l s' = .next t ∧
        Painted s' t ((l.map fun sp => (sp.xe - sp.xs).toNat).sum)
          fun a => ∃ sp ∈ l, s.rowStores base sp.y sp.xs sp.xe a := by
    intro l hl
    induction l with
    | nil => exact fun s' _ => ⟨s', rfl, (Painted.refl s').mono fun _ h => h.elim⟩
    | cons sp l ih =>
      intro s' hr
      obtain ⟨t, h1, h2⟩ := scanline_painted (base := base) (y := sp.y) (hr.unitsReady hs) (hl sp (by simp))
      obtain ⟨u, k1, k2⟩ := ih (fun q hq => hl q (by simp [hq])) t (hr.trans h2.only)
      refine ⟨u, by simp [h1, k1], (h2.trans k2).mono ?_⟩
      rintro a (ha | ⟨q, hq, ha⟩)
      · exact ⟨sp, by simp, (hr.rowStores _ _ _ _ _).1 ha⟩
      · exact ⟨q, by simp [hq], ha⟩
  exact key _ (fun sp h => coverage_ordered h) s (.refl s)

/-! ### Whatever rasterization completes with -/

theorem drawSpan_only {base ntmu : Nat} {y scry xs xe : Int} {s t : State}
    (h : drawSpan base ntmu y scry xs xe s = .next t) : RenderOnly s t :=
  foldOut_rel (R := RenderOnly) (f := fun x s => pixel (trianglePixel s base ntmu x y scry) s)
    RenderOnly.refl (fun _ _ _ h k => h.trans k) (fun _ _ _ h => pixel_only h) h

theorem scanline_only {base ntmu : Nat} {y xs xe : Int} {s t : State} (h : scanline base ntmu y xs xe s = .next t) :
    RenderOnly s t := by
  unfold scanline at h
  dsimp only at h
  split at h
  · exact drawSpan_only h
  · split at h
    · injection h with h
      rw [← h]
      exact (painted_count s _ _).only
    · exact (painted_addPixelsIn s _).only.trans (drawSpan_only h)

theorem rasterize_only {base ntmu : Nat} {s t : State} (h : rasterize base ntmu s = .next t) : RenderOnly s t := by
  have step : ∀ (sp : Span) (a b : State), scanline base ntmu sp.y sp.xs sp.xe a = .next b → RenderOnly a b :=
    fun _ _ _ h => scanline_only h
  unfold rasterize at h
  exact foldOut_rel RenderOnly.refl (fun _ _ _ h k => h.trans k) step h

/-- What rasterization from `s` can answer: a next state, or the refusal of an active unit that samples. -/
def RasterStop (s : State) (ntmu : Nat) (o : Out) : Prop :=
  (∃ t, o = .next t) ∨ ∃ r, o = .refused r ∧ s.SampleRefusal ntmu r

theorem foldOut_rasterStop {α : Type} {f : α → State → Out} {ntmu : Nat} (hf : ∀ a s, RasterStop s ntmu (f a s))
    (hr : ∀ a s t, f a s = .next t → RenderOnly s t) (l : List α) (s : State) :
    RasterStop s ntmu (foldOut f l s) := by
  induction l generalizing s with
  | nil => exact .inl ⟨s, rfl⟩
  | cons a l ih =>
    rcases hf a s with ⟨t, ht⟩ | ⟨r, hs, h⟩
    · rw [foldOut_cons, ht]
      rcases ih t with h | ⟨r, hs, h⟩
      · exact .inl h
      · exact .inr ⟨r, hs, (hr a s t ht).sampleRefusal h⟩
    · rw [foldOut_cons, hs]; exact .inr ⟨r, rfl, h⟩

theorem drawSpan_stops (base ntmu : Nat) (y scry xs xe : Int) (s : State) :
    RasterStop s ntmu (drawSpan base ntmu y scry xs xe s) :=
  foldOut_rasterStop (fun x s => pixel_stops (trianglePixel s base ntmu x y scry) s) (fun _ _ _ h => pixel_only h) _ s

theorem scanline_stops (base ntmu : Nat) (y xs xe : Int) (s : State) :
    RasterStop s ntmu (scanline base ntmu y xs xe s) := by
  unfold scanline
  dsimp only
  split
  · exact drawSpan_stops _ _ _ _ _ _ _
  · split
    · exact .inl ⟨_, rfl⟩
    · exact drawSpan_stops _ _ _ _ _ _ _

theorem rasterize_stops (base ntmu : Nat) (s : State) : RasterStop s ntmu (rasterize base ntmu s) :=
  foldOut_rasterStop (fun _ _ => scanline_stops _ _ _ _ _ _) (fun _ _ _ h => scanline_only h) _ s

end Sys2Proof.Machine
end

