-- ==== Sys2Proof/Laws/Triangle.lean ====
section
/-! SUPPORT. What the preparation of a triangle, the cache lookup and the triangle procedure can do, said once each. -/

namespace Sys2Proof.Machine

/-! ### TMUs as fields -/

theorem setTmu_tmu (s : State) (u v : TmuId) (t : Tmu) : (s.setTmu u t).tmu v = if v = u then t else s.tmu v := by
  cases u <;> cases v <;> rfl

@[simp] theorem setTmu_tmu_self (s : State) (u : TmuId) (t : Tmu) : (s.setTmu u t).tmu u = t := by cases u <;> rfl

@[simp] theorem setTmu_self (s : State) (u : TmuId) : s.setTmu u (s.tmu u) = s := by cases u <;> rfl

@[simp] theorem setTmu_setTmu (s : State) (u : TmuId) (t t' : Tmu) : (s.setTmu u t).setTmu u t' = s.setTmu u t' := by
  cases u <;> rfl

@[simp] theorem setTmu_tmuReg (s : State) (u v : TmuId) (t : Tmu) (n : RegNum) :
    (s.setTmu u t).tmuReg v n = s.tmuReg v n := by cases u <;> rfl

@[simp] theorem setTmu_fbiReg (s : State) (u : TmuId) (t : Tmu) (n : RegNum) : (s.setTmu u t).fbiReg n = s.fbiReg n := by
  cases u <;> rfl

@[simp] theorem setTmu_cfg (s : State) (u : TmuId) (t : Tmu) : (s.setTmu u t).cfg = s.cfg := by cases u <;> rfl

@[simp] theorem setTmu_cacheStates (s : State) (u : TmuId) (t : Tmu) : (s.setTmu u t).cacheStates = s.cacheStates := by
  cases u <;> rfl

/-! ### Preparing one unit -/

/-- A unit with its selected NCC table brought up to date and its base LOD set (42_texture.md R250). -/
def Tmu.readied (t : Tmu) (tm : Word) : Tmu :=
  let table := t.ncc (tmNccSelect tm)
  let ready := if isYiq (tmFormat tm) ∧ table.dirty then t.setNcc (tmNccSelect tm) (regenerateNcc table) else t
  { ready with lodbase := lodBase ready }

/-- A unit with its derived state brought up to date (42_texture.md R251). -/
def State.currentTmu (s : State) (u : TmuId) : Tmu := if (s.tmu u).dirty then s.derived u else s.tmu u

theorem setTmu_textureMode (s : State) (u v : TmuId) (t : Tmu) : (s.setTmu u t).textureMode v = s.textureMode v :=
  setTmu_tmuReg s u v t _

theorem readyTmu_eq (u : TmuId) (s : State) :
    setLodBase u (regenerateSelected u s) = s.setTmu u ((s.tmu u).readied (s.textureMode u)) := by
  unfold setLodBase regenerateSelected Tmu.readied
  dsimp only
  split
  · rw [setTmu_tmu_self, setTmu_setTmu]
  · rfl

/-- `Recompute(u)` of a dirty unit changes the unit alone (42_texture.md R251). -/
theorem recomputeIfDirty_eq (u : TmuId) (s : State) : recomputeIfDirty u s = s.setTmu u (s.currentTmu u) := by
  unfold recomputeIfDirty recompute State.currentTmu
  split
  · rfl
  · exact (setTmu_self s u).symm

/-- `PrepareTMU(u)` changes the unit alone (42_texture.md R250). -/
theorem prepareTmu_eq (u : TmuId) (s : State) :
    prepareTmu u s = s.setTmu u ((s.currentTmu u).readied (s.textureMode u)) := by
  unfold prepareTmu
  rw [readyTmu_eq, recomputeIfDirty_eq]
  simp only [setTmu_tmu_self, setTmu_setTmu, setTmu_textureMode]

/-! ### Preparing a triangle -/

/-- The start values of the active units and of the FBI, adjusted if asked (41_triangle.md R212, R231). -/
def State.adjusted (s : State) (ntmu : Nat) : State :=
  if cpSubpixelAdjust s.fbzColorPath then subpixelAdjust ntmu s else s

/-- `ntmu` is at most 2. -/
theorem ntmu_cases (s : State) : s.ntmu = 0 ∨ s.ntmu = 1 ∨ s.ntmu = 2 := by
  unfold State.ntmu
  split
  · exact .inl rfl
  · split
    · exact .inr (.inl rfl)
    · exact .inr (.inr rfl)

theorem subpixelAdjust_eq (s : State) (ntmu : Nat) :
    subpixelAdjust ntmu s = { s with
      fbi := adjustFbi s.fbi
      tmu0 := if .t0 ∈ activeTmus ntmu then adjustTmu (subpixelShift s.fbi.vax) (subpixelShift s.fbi.vay) s.tmu0
        else s.tmu0
      tmu1 := if .t1 ∈ activeTmus ntmu then adjustTmu (subpixelShift s.fbi.vax) (subpixelShift s.fbi.vay) s.tmu1
        else s.tmu1 } := by
  match ntmu with
  | 0 => rfl
  | 1 => rfl
  | _ + 2 => rfl

/-- What the adjustment changes: the FBI iterators and the active units. -/
theorem adjusted_eq (s : State) (ntmu : Nat) :
    s.adjusted ntmu = { s with
      fbi := if cpSubpixelAdjust s.fbzColorPath then adjustFbi s.fbi else s.fbi
      tmu0 := (s.adjusted ntmu).tmu0
      tmu1 := (s.adjusted ntmu).tmu1 } := by
  unfold State.adjusted
  split
  · rw [subpixelAdjust_eq]
  · rfl

theorem adjusted_cfg (s : State) (n : Nat) : (s.adjusted n).cfg = s.cfg := by rw [adjusted_eq]
theorem adjusted_regs (s : State) (n : Nat) : (s.adjusted n).regs = s.regs := by rw [adjusted_eq]
theorem adjusted_tmuReg (s : State) (n : Nat) (u : TmuId) (m : RegNum) : (s.adjusted n).tmuReg u m = s.tmuReg u m := by
  unfold State.tmuReg State.slot; rw [adjusted_regs]

/-- `State.preparedTmu` of an active unit, from the adjusted state. -/
theorem preparedTmu_active {s : State} {u : TmuId} (h : u ∈ activeTmus s.ntmu) :
    s.preparedTmu u = ((s.adjusted s.ntmu).currentTmu u).readied (s.textureMode u) := by
  unfold State.preparedTmu State.currentTmu State.adjusted
  simp only [h, if_true]
  split
  · rw [subpixelAdjust_eq]
    cases u <;> simp only [h, if_true] <;> rfl
  · rfl

theorem preparedTmu_inactive {s : State} {u : TmuId} (h : u ∉ activeTmus s.ntmu) : s.preparedTmu u = s.tmu u := by
  unfold State.preparedTmu
  rw [if_neg h]

theorem adjusted_inactive {s : State} {u : TmuId} (h : u ∉ activeTmus s.ntmu) :
    (s.adjusted s.ntmu).tmu u = s.tmu u := by
  unfold State.adjusted
  split
  · rw [subpixelAdjust_eq]
    cases u <;> simp only [h, if_false, State.tmu]
  · rfl

/-- Preparation leaves the iterators and the active units prepared, and nothing else changed (41_triangle.md R212;
42_texture.md R250). -/
theorem prepareTriangle_eq (s : State) : prepareTriangle s.ntmu s = s.prepared := by
  have hp : prepareTriangle s.ntmu s = foldState prepareTmu (activeTmus s.ntmu) (s.adjusted s.ntmu) := rfl
  have hmode : ∀ u, (s.adjusted s.ntmu).textureMode u = s.textureMode u := fun u => adjusted_tmuReg _ _ _ _
  rw [hp]
  rcases ntmu_cases s with h | h | h
  · have e : activeTmus s.ntmu = [] := by rw [h]; rfl
    have h0 : TmuId.t0 ∉ activeTmus s.ntmu := by simp [e]
    have h1 : TmuId.t1 ∉ activeTmus s.ntmu := by simp [e]
    have a0 := adjusted_inactive h0
    have a1 := adjusted_inactive h1
    simp only [State.tmu] at a0 a1
    rw [e, foldState_nil, adjusted_eq, a0, a1]
    simp only [State.prepared, preparedTmu_inactive h0, preparedTmu_inactive h1, State.tmu]
  · have e : activeTmus s.ntmu = [.t0] := by rw [h]; rfl
    have h0 : TmuId.t0 ∈ activeTmus s.ntmu := by simp [e]
    have h1 : TmuId.t1 ∉ activeTmus s.ntmu := by simp [e]
    have a1 := adjusted_inactive h1
    simp only [State.tmu] at a1
    rw [e]
    simp only [foldState_cons, foldState_nil, prepareTmu_eq, hmode, ← preparedTmu_active h0]
    rw [adjusted_eq, a1]
    simp only [State.prepared, preparedTmu_inactive h1, State.tmu, State.setTmu]
  · have e : activeTmus s.ntmu = [.t0, .t1] := by rw [h]; rfl
    have h0 : TmuId.t0 ∈ activeTmus s.ntmu := by simp [e]
    have h1 : TmuId.t1 ∈ activeTmus s.ntmu := by simp [e]
    have hc : ∀ t, ((s.adjusted s.ntmu).setTmu .t0 t).currentTmu .t1 = (s.adjusted s.ntmu).currentTmu .t1 := fun _ => rfl
    rw [e]
    simp only [foldState_cons, foldState_nil, prepareTmu_eq, setTmu_textureMode, hmode, hc, ← preparedTmu_active h0,
      ← preparedTmu_active h1]
    rw [adjusted_eq]
    rfl

/-- The lookup answers, or stops with CacheFull and `fatal` set when the key is new and the cache has no room
(60_exceptions.md R402, R404). -/
theorem cacheLookup_eq (key : RenderKey) (s : State) :
    cacheLookup key s =
      if key ∉ s.cacheStates ∧ Config.cacheCapacity - s.cfg.cacheReserved ≤ s.cacheStates.length then
        .fault (.cacheFull { s with fatal := true })
      else .next { s with cacheStates := if key ∈ s.cacheStates then s.cacheStates else s.cacheStates ++ [key] } := by
  unfold cacheLookup
  by_cases h : key ∈ s.cacheStates
  · simp [h]
  · by_cases h2 : Config.cacheCapacity - s.cfg.cacheReserved ≤ s.cacheStates.length <;> simp [h, h2]

/-- Everything a triangle can do (41_triangle.md R212): nothing without a draw surface, CacheFull from the prepared state,
or the rasterization from the prepared state with the key in the cache and the triangle counted. -/
theorem triangle_cases (s : State) :
    (s.drawOffset = none ∧ triangle s = .next s) ∨
    ∃ base, s.drawOffset = some base ∧
      ((¬ s.cacheRoom ∧ triangle s = .fault (.cacheFull { s.prepared with fatal := true })) ∨
        (s.cacheRoom ∧ triangle s = rasterize base s.ntmu (addTriangle { s.prepared with
          cacheStates := if renderKey s s.ntmu ∈ s.cacheStates then s.cacheStates
            else s.cacheStates ++ [renderKey s s.ntmu] }))) := by
  unfold triangle
  split
  · next h => exact .inl ⟨h, rfl⟩
  · next base h =>
    refine .inr ⟨base, h, ?_⟩
    have hk : renderKey s.prepared s.ntmu = renderKey s s.ntmu := rfl
    have hc : s.prepared.cacheStates = s.cacheStates := rfl
    have hg : s.prepared.cfg = s.cfg := rfl
    simp only [prepareTriangle_eq, cacheLookup_eq, hk, hc, hg]
    unfold State.cacheRoom
    by_cases hm : renderKey s s.ntmu ∈ s.cacheStates
    · exact .inr ⟨.inl hm, by simp [hm]⟩
    · by_cases hl : Config.cacheCapacity - s.cfg.cacheReserved ≤ s.cacheStates.length
      · exact .inl ⟨by simp [hm]; omega, by simp [hm, hl, andThen]⟩
      · exact .inr ⟨.inr (by omega), by simp [hm, hl]⟩

/-! ### What a triangle leaves -/

@[simp] theorem readied_lodmax (t : Tmu) (tm : Word) : (t.readied tm).lodmax = t.lodmax := by
  unfold Tmu.readied Tmu.setNcc
  dsimp only
  split
  · split <;> rfl
  · rfl

@[simp] theorem readied_lodmin (t : Tmu) (tm : Word) : (t.readied tm).lodmin = t.lodmin := by
  unfold Tmu.readied Tmu.setNcc
  dsimp only
  split
  · split <;> rfl
  · rfl

@[simp] theorem readied_lodmask (t : Tmu) (tm : Word) : (t.readied tm).lodmask = t.lodmask := by
  unfold Tmu.readied Tmu.setNcc
  dsimp only
  split
  · split <;> rfl
  · rfl

@[simp] theorem readied_separateRgba (t : Tmu) (tm : Word) : (t.readied tm).separateRgba = t.separateRgba := by
  unfold Tmu.readied Tmu.setNcc
  dsimp only
  split
  · split <;> rfl
  · rfl

/-- A unit whose derived state is sound holds what its registers say (42_texture.md R251). -/
theorem currentTmu_fields {s : State} {u : TmuId} (h : s.derivedSound u = true) :
    (s.currentTmu u).lodmin = tlLodMin (s.tLOD u) * 64 ∧ (s.currentTmu u).lodmax = tlLodMax (s.tLOD u) * 64 ∧
      (s.currentTmu u).lodmask = lodMask (s.tLOD u) ∧ (s.currentTmu u).separateRgba = tdSeparateRgba (s.tDetail u) := by
  have key : ∀ t : Tmu, t = s.derived u → t.lodmin = tlLodMin (s.tLOD u) * 64 ∧ t.lodmax = tlLodMax (s.tLOD u) * 64 ∧
      t.lodmask = lodMask (s.tLOD u) ∧ t.separateRgba = tdSeparateRgba (s.tDetail u) := by
    rintro t rfl
    exact ⟨rfl, rfl, rfl, rfl⟩
  unfold State.currentTmu
  split
  · exact key _ rfl
  · next hd => exact key _ (by simpa [State.derivedSound, hd] using h)

/-- Adjusting keeps the soundness of the derived state. -/
theorem adjusted_derivedSound {s : State} {n : Nat} {u : TmuId} (h : s.derivedSound u = true) :
    (s.adjusted n).derivedSound u = true := by
  unfold State.adjusted
  split
  · rw [subpixelAdjust_eq]
    unfold State.derivedSound at h ⊢
    simp only [Bool.or_eq_true, decide_eq_true_eq] at h ⊢
    rcases h with h | h
    · left
      cases u <;> simp only [State.tmu] at h ⊢ <;> split <;> exact h
    · right
      cases u <;> simp only [State.tmu] at h ⊢ <;> split
      all_goals
        first
          | exact h
          | (rw [h]; rfl)
  · exact h

/-- Sampling a prepared unit can refuse only as its registers say (42_texture.md R251, R254). -/
theorem prepared_unitRefuses {s : State} {u : TmuId} {r : Refusal} (hs : s.derivedSound u = true)
    (hu : u ∈ activeTmus s.ntmu) (h : s.prepared.unitRefuses u r) :
    s.samples u ∧ ((r = .separateRgbaFilter ∧ s.separateFilter u) ∨ (r = .reservedTexelFormat ∧ s.formatReserved u) ∨
      (r = .noSuchLevel ∧ ¬ s.levelsExist u)) := by
  have ht : s.prepared.tmu u = s.preparedTmu u := by cases u <;> rfl
  have hl : (s.adjusted s.ntmu).tLOD u = s.tLOD u := adjusted_tmuReg _ _ _ _
  have hd : (s.adjusted s.ntmu).tDetail u = s.tDetail u := adjusted_tmuReg _ _ _ _
  obtain ⟨k1, k2, k3, k4⟩ := currentTmu_fields (adjusted_derivedSound (n := s.ntmu) hs)
  unfold State.unitRefuses Tmu.levelsExist Tmu.separateFilter at h
  rw [ht, preparedTmu_active hu, readied_lodmin, readied_lodmax, readied_lodmask, readied_separateRgba, k1, k2, k3, k4, hl,
    hd] at h
  unfold State.samples State.separateFilter State.formatReserved State.levelsExist
  obtain ⟨hm, h⟩ := h
  refine ⟨by omega, ?_⟩
  rcases h with ⟨rfl, h⟩ | ⟨rfl, h⟩ | ⟨rfl, h⟩
  · exact .inl ⟨rfl, by simpa [show s.prepared.cfg = s.cfg from rfl] using h⟩
  · exact .inr (.inl ⟨rfl, h⟩)
  · exact .inr (.inr ⟨rfl, fun k => h (k.imp (by omega) fun k => ⟨by omega, k.2⟩)⟩)

/-- The units of a prepared triangle can sample when the registers allow it (42_texture.md R254). -/
theorem prepared_ready {s : State} (h0 : s.derivedSound .t0 = true) (h1 : s.derivedSound .t1 = true)
    (h : s.textureReady) : s.prepared.unitsReady s.ntmu := by
  intro u hu r hr
  obtain ⟨k, h'⟩ := prepared_unitRefuses (by cases u <;> assumption) hu hr
  obtain ⟨a, b, c⟩ := h u hu k
  rcases h' with ⟨-, h'⟩ | ⟨-, h'⟩ | ⟨-, h'⟩
  · exact a h'
  · exact b h'
  · exact h' c

/-- The adjustment keeps the vertices, so the coverage. -/
theorem prepared_coverage (s : State) : coverage s.prepared.fbi = coverage s.fbi := by
  unfold State.prepared
  dsimp only
  split <;> rfl

/-- A triangle on a draw surface whose units can sample and whose key has room completes, and leaves what
`State.TriangleRan` says (41_triangle.md R212). -/
theorem triangle_ran {s : State} {base : Nat} (hb : s.drawOffset = some base) (h0 : s.derivedSound .t0 = true)
    (h1 : s.derivedSound .t1 = true) (h : s.textureReady) (hc : s.cacheRoom) :
    ∃ t, triangle s = .next t ∧ s.TriangleRan base t := by
  rcases triangle_cases s with ⟨hn, -⟩ | ⟨b, hb', h2⟩
  · rw [hn] at hb; cases hb
  obtain rfl : b = base := by rw [hb'] at hb; injection hb
  rcases h2 with ⟨hn, -⟩ | ⟨-, ht⟩
  · exact absurd hc hn
  generalize hq : addTriangle { s.prepared with
    cacheStates := if renderKey s s.ntmu ∈ s.cacheStates then s.cacheStates
      else s.cacheStates ++ [renderKey s s.ntmu] } = q at ht
  have hready : q.unitsReady s.ntmu := by
    subst hq; exact prepared_ready h0 h1 h
  obtain ⟨t, k1, k2⟩ := rasterize_painted (base := b) hready
  refine ⟨t, ht.trans k1, ?_⟩
  subst hq
  refine ⟨?_, k2.only.2, ?_, ?_, ?_⟩
  · exact k2.only.1
  · rw [k2.triangles]; rfl
  · rw [k2.count]
    simp only [coveredPixels, addTriangle, prepared_coverage]
    rfl
  · intro a ha
    refine (k2.bytes a ?_).trans rfl
    rintro ⟨sp, hsp, x, hx1, hx2, hx3⟩
    simp only [addTriangle, prepared_coverage] at hsp
    exact ha sp hsp x hx1 hx2 hx3

/-- The stops of a triangle: CacheFull from the prepared state, or the refusal of an active unit that samples, as its
registers say (41_triangle.md R212; 60_exceptions.md R406). -/
theorem triangle_stops {s : State} (h0 : s.derivedSound .t0 = true) (h1 : s.derivedSound .t1 = true) :
    (∃ t, triangle s = .next t) ∨ (¬ s.cacheRoom ∧ triangle s = .fault (.cacheFull { s.prepared with fatal := true })) ∨
      ∃ r, triangle s = .refused r ∧ ∃ u ∈ activeTmus s.ntmu, s.samples u ∧
        ((r = .separateRgbaFilter ∧ s.separateFilter u) ∨ (r = .reservedTexelFormat ∧ s.formatReserved u) ∨
          (r = .noSuchLevel ∧ ¬ s.levelsExist u)) := by
  rcases triangle_cases s with ⟨-, h⟩ | ⟨b, -, ⟨hn, h⟩ | ⟨-, h⟩⟩
  · exact .inl ⟨s, h⟩
  · exact .inr (.inl ⟨hn, h⟩)
  · rcases rasterize_stops b s.ntmu (addTriangle { s.prepared with
      cacheStates := if renderKey s s.ntmu ∈ s.cacheStates then s.cacheStates
        else s.cacheStates ++ [renderKey s s.ntmu] }) with ⟨t, ht⟩ | ⟨r, hr, u, hu, h2⟩
    · exact .inl ⟨t, h.trans ht⟩
    · have h3 : s.prepared.unitRefuses u r := by cases u <;> exact h2
      exact .inr (.inr ⟨r, h.trans hr, u, hu, prepared_unitRefuses (by cases u <;> assumption) hu h3⟩)

/-- An active unit asks for texturing. -/
theorem ntmu_textured {s : State} (h : 1 ≤ s.ntmu) : cpTextureEnable s.fbzColorPath = true := by
  unfold State.ntmu at h
  split at h
  · omega
  · next hn =>
    by_contra hc
    exact hn (.inl (by simpa using hc))

end Sys2Proof.Machine
end

