-- ==== Sys2Proof/Laws/Setup.lean ====
section
/-! SUPPORT. What the setup of a triangle can do, said once: its frame, and the fields each selected part sets. -/

namespace Sys2Proof.Machine

/-- Nothing changed but interpolated parameters and the draw count. -/
def SetupOnly (s t : State) : Prop :=
  t = { s with
    fbi := { s.fbi with r := t.fbi.r, g := t.fbi.g, b := t.fbi.b, a := t.fbi.a, z := t.fbi.z, w := t.fbi.w }
    tmu0 := { s.tmu0 with s := t.tmu0.s, t := t.tmu0.t, w := t.tmu0.w }
    tmu1 := { s.tmu1 with s := t.tmu1.s, t := t.tmu1.t, w := t.tmu1.w }
    draws := t.draws }

theorem SetupOnly.refl (s : State) : SetupOnly s s := rfl

theorem SetupOnly.trans {s t u : State} (h : SetupOnly s t) (k : SetupOnly t u) : SetupOnly s u := by
  unfold SetupOnly at *
  rw [k, h]

theorem applyIf_only {b : Bool} {f : State → State} (h : ∀ s, SetupOnly s (f s)) (s : State) :
    SetupOnly s (applyIf b f s) := by
  cases b
  · exact .refl s
  · exact h s

/-- A quantity that `f` keeps is kept when `f` runs on a condition. -/
theorem applyIf_keep {α : Type} {p : State → α} {f : State → State} (h : ∀ s, p (f s) = p s) (b : Bool) (s : State) :
    p (applyIf b f s) = p s := by
  cases b
  · rfl
  · exact h s

/-- A part that is not selected keeps everything. -/
theorem applyIf_off {b : Bool} (f : State → State) (h : b = false) (s : State) : applyIf b f s = s := by rw [h]; rfl

theorem applyIf_on {b : Bool} (f : State → State) (h : b = true) (s : State) : applyIf b f s = f s := by rw [h]; rfl

/-- The setup changes interpolated parameters and the draw count alone (41_triangle.md R222). -/
theorem setupParams_only (mode : Word) (g : SetupGeometry) (s : State) : SetupOnly s (setupParams mode g s) := by
  unfold setupParams
  dsimp only
  refine .trans (.trans (.trans (.trans (.trans (.trans (.trans (applyIf_only ?_ _) (applyIf_only ?_ _))
    (applyIf_only ?_ _)) (applyIf_only ?_ _)) (applyIf_only ?_ _)) (applyIf_only ?_ _)) (applyIf_only ?_ _))
    (applyIf_only ?_ _) <;> exact fun _ => rfl

/-- Setup keeps what the derived state of a unit rests on. -/
theorem SetupOnly.derivedSound {s t : State} (h : SetupOnly s t) (u : TmuId) :
    t.derivedSound u = true ↔ s.derivedSound u = true := by
  have key : ∀ (x : Tmu) (a b c : Grad64) (n : Nat) (tm tl td : Word) (base : Nat),
      ({ x with s := a, t := b, w := c } = deriveTmu n tm tl td base { x with s := a, t := b, w := c }) ↔
        x = deriveTmu n tm tl td base x := by
    intro x a b c n tm tl td base
    cases x
    simp [deriveTmu]
  unfold SetupOnly at h
  unfold State.derivedSound
  rw [h]
  cases u <;> simp only [Bool.or_eq_true, decide_eq_true_eq] <;> exact or_congr Iff.rfl (key _ _ _ _ _ _ _ _ _)

/-! ### Conversions and parameters (41_triangle.md R222) -/

/-- A value that agrees with the conversion wherever it has a value is the truncation in range. -/
theorem truncates_of_convert {w : Nat} {f : Word} {v : BitVec w} (hw : 0 < w)
    (h : ∀ c, convert32 w f = some c → v = c) : Truncates f v := by
  intro i hi h1 h2
  have hc : convert32 w f = some (BitVec.ofInt w i) := by
    unfold convert32
    rw [hi]
    exact if_pos ⟨h1, h2⟩
  rw [h _ hc, BitVec.toInt_ofInt]
  obtain ⟨n, rfl⟩ : ∃ n, w = n + 1 := ⟨w - 1, by omega⟩
  simp only [Nat.add_sub_cancel] at h1 h2
  rw [Int.bmod_eq_of_le] <;> rw [Nat.pow_succ] <;> omega

theorem setupI32_truncates (f : Word) (k : Nat) : Truncates f (setupI32 f k).value :=
  truncates_of_convert (by decide) fun c h => by unfold setupI32; rw [h]

theorem setupI64_truncates (f : Word) (k : Nat) : Truncates f (setupI64 f k).value :=
  truncates_of_convert (by decide) fun c h => by unfold setupI64; rw [h]

theorem setupVertex_truncates (f : Word) (k : Nat) : Truncates (mul32 f f32Sixteen) (setupVertex f k).value :=
  truncates_of_convert (by decide) fun c h => by unfold setupVertex; rw [h]

/-- `Param(q, 4096.0)` of a buffer's triangle. -/
theorem param32_is (b : SetupBuffer) (q : SetupVertex → Word) (k : Nat) :
    b.Param12 q (param32 (setupGeometry b.v0 b.v1 b.v2) (q b.v0) (q b.v1) (q b.v2) k).value :=
  ⟨setupI32_truncates _ _, setupI32_truncates _ _, setupI32_truncates _ _⟩

/-- `Param(q, 2^32)` of a buffer's triangle. -/
theorem param64_is (b : SetupBuffer) (q : SetupVertex → Word) (k : Nat) :
    b.Param32 q (param64 (setupGeometry b.v0 b.v1 b.v2) (q b.v0) (q b.v1) (q b.v2) k).value :=
  ⟨setupI64_truncates _ _, setupI64_truncates _ _, setupI64_truncates _ _⟩

end Sys2Proof.Machine
end

