-- ==== Sys2Proof/Laws/Lfb.lean ====
section
/-! SUPPORT. What an LFB pixel, a fast-fill row and a texture-memory write can do, said once each. -/

namespace Sys2Proof.Machine

/-! ### The raw path of the linear frame buffer -/

theorem rawColor_only (base : Nat) (c : LfbCarries) (p : LfbPixel) (x y scry : Int) (s : State) :
    RenderOnly s (rawColor base c p x y scry s) := by
  unfold rawColor
  split
  · exact .fbWrite16 _ _ s
  · exact .refl s

/-- The aux store of a raw pixel is one 16-bit write to the aux surface, or nothing (44_commands.md R384). -/
theorem rawAux_cases (c : LfbCarries) (p : LfbPixel) (x scry : Int) (s : State) :
    rawAux c p x scry s = s ∨
      ∃ aux v, s.surf.aux = some aux ∧ rawAux c p x scry s = fbWrite16 (pixelAddr s aux scry x) v s := by
  unfold rawAux
  split
  · exact .inl rfl
  · next aux hx =>
    split
    · split
      · split
        · exact .inr ⟨aux, _, hx, rfl⟩
        · exact .inl rfl
      · split
        · exact .inr ⟨aux, _, hx, rfl⟩
        · exact .inl rfl
    · exact .inl rfl

theorem rawAux_only (c : LfbCarries) (p : LfbPixel) (x scry : Int) (s : State) : RenderOnly s (rawAux c p x scry s) := by
  rcases rawAux_cases c p x scry s with h | ⟨aux, v, -, h⟩
  · rw [h]; exact .refl s
  · rw [h]; exact .fbWrite16 _ _ s

/-- A raw pixel changes no register. -/
theorem rawPixel_slot (base : Nat) (c : LfbCarries) (p : LfbPixel) (x y : Int) (s : State) (j : Nat) :
    (rawPixel base c p x y s).slot j = s.slot j := by
  unfold rawPixel rawColor
  rcases rawAux_cases c p x (lfbScreenY s y)
    (if c.rgb ∧ offsetInRange s base (pixelOffset s (lfbScreenY s y) x) then
      fbWrite16 (pixelAddr s base (lfbScreenY s y) x) (reduce565 s.fbzMode p.color x y) s else s) with h | ⟨aux, v, -, h⟩
  all_goals
    dsimp only
    rw [h]
    split <;> rfl

theorem rawPixel_only (base : Nat) (c : LfbCarries) (p : LfbPixel) (x y : Int) (s : State) :
    RenderOnly s (rawPixel base c p x y s) :=
  ((rawColor_only base c p x y _ s).trans (rawAux_only c p x _ _)).trans (.stats _ _)

/-- A raw pixel changes no byte outside its own on the colour and the aux surface (44_commands.md R384). -/
theorem rawPixel_bytes {base : Nat} {c : LfbCarries} {p : LfbPixel} {x y : Int} {s : State} {a : Nat}
    (h0 : ¬ s.pixelByte base (lfbScreenY s y) x a)
    (h1 : ∀ aux, s.surf.aux = some aux → ¬ s.pixelByte aux (lfbScreenY s y) x a) :
    (rawPixel base c p x y s).fbByte a = s.fbByte a := by
  have ho := rawColor_only base c p x y (lfbScreenY s y) s
  have e1 : (rawColor base c p x y (lfbScreenY s y) s).fbByte a = s.fbByte a := by
    unfold rawColor
    split
    · exact fbWrite16_other (fun e => h0 (.inl e)) (fun e => h0 (.inr e))
    · rfl
  refine Eq.trans ?_ e1
  change (rawAux _ _ _ _ _).fbByte a = _
  rcases rawAux_cases c p x (lfbScreenY s y) (rawColor base c p x y (lfbScreenY s y) s) with h | ⟨aux, v, hx, h⟩
  · rw [h]
  · rw [h]
    rw [ho.surf] at hx
    exact fbWrite16_other (fun e => h1 aux hx ((ho.pixelByte _ _ _ _).1 (.inl e)))
      (fun e => h1 aux hx ((ho.pixelByte _ _ _ _).1 (.inr e)))

/-! ### Either path -/

/-- A pixel of an LFB write completes on either path, changes nothing beyond the frame of rendering, no register on the
raw path, and no byte outside the pixels of its word (44_commands.md R384, R385). -/
theorem lfbWritePixel_next {base : Nat} {c : LfbCarries} {l : BitVec 20} {data : Word} {k : Nat} {s : State}
    (hk : k ∈ lfbPixels (lfbWriteFormat s.lfbMode)) :
    ∃ t, lfbWritePixel base c l data k s = .next t ∧ RenderOnly s t ∧
      (lfbPipeline s.lfbMode = false → ∀ j, t.slot j = s.slot j) ∧
      ∀ a, ¬ s.lfbStores base l a → t.fbByte a = s.fbByte a := by
  unfold lfbWritePixel
  dsimp only
  by_cases hp : lfbPipeline s.lfbMode = true
  · rw [if_pos hp]
    have raw : lfbPipeline s.lfbMode = false → False := fun h => by rw [h] at hp; cases hp
    unfold pipelinePixel
    dsimp only
    split
    · exact ⟨s, rfl, .refl s, fun h => (raw h).elim, fun _ _ => rfl⟩
    · split
      · exact ⟨_, rfl, (painted_count s 1 1).only, fun h => (raw h).elim, fun _ _ => rfl⟩
      · generalize hq : lfbPixelIn s base _ _ _ _ = q
        obtain ⟨t, ht⟩ := pixel_total (p := q) (s := s) (by subst hq; intro u hu; cases hu)
        have hh := pixel_painted ht
        refine ⟨t, ht, hh.only, fun h => (raw h).elim, fun a ha => hh.bytes a fun hs => ha ⟨k, hk, ?_⟩⟩
        subst hq
        simp only [State.lfbRow, if_pos hp]
        rcases hs with ⟨-, h⟩ | ⟨aux, h1, -, -, h2⟩
        · exact .inl h
        · exact .inr ⟨aux, h1, h2⟩
  · rw [if_neg hp]
    refine ⟨_, rfl, rawPixel_only _ _ _ _ _ s, fun _ j => rawPixel_slot _ _ _ _ _ s j, fun a ha => rawPixel_bytes
      (fun h => ha ⟨k, hk, .inl ?_⟩) (fun aux hx h => ha ⟨k, hk, .inr ⟨aux, hx, ?_⟩⟩)⟩ <;>
    simp only [State.lfbRow, if_neg hp] <;> exact h

/-! ### Fast fill -/

/-- A row of a fill changes frame-buffer memory alone (44_commands.md R362). -/
theorem foldState_fbram {α : Type} (f : α → State → State) (h : ∀ a s, f a s = { s with fbram := (f a s).fbram })
    (l : List α) (s : State) : foldState f l s = { s with fbram := (foldState f l s).fbram } := by
  induction l generalizing s with
  | nil => rfl
  | cons a l ih =>
    have e : foldState f (a :: l) s = foldState f l (f a s) := rfl
    rw [e]
    refine (ih (f a s)).trans ?_
    generalize (foldState f l (f a s)).fbram = m
    rw [h a s]

theorem fillRow_frame (base : Nat) (scry : Int) (v : Int → Half) (s : State) :
    fillRow base scry v s = { s with fbram := (fillRow base scry v s).fbram } :=
  foldState_fbram _ (fun _ _ => rfl) _ _

/-- A fold of updates that each leave a byte alone leaves it alone. -/
theorem foldState_fbByte {α : Type} {f : α → State → State} {R : State → Prop} {a : Nat} {l : List α}
    (h : ∀ x ∈ l, ∀ s, R s → (f x s).fbByte a = s.fbByte a ∧ R (f x s)) {s : State} (hs : R s) :
    (foldState f l s).fbByte a = s.fbByte a ∧ R (foldState f l s) := by
  induction l generalizing s with
  | nil => exact ⟨rfl, hs⟩
  | cons x l ih =>
    obtain ⟨h1, h2⟩ := h x (by simp) s hs
    obtain ⟨k1, k2⟩ := ih (fun y hy => h y (by simp [hy])) h2
    exact ⟨k1.trans h1, k2⟩

/-- A row of a fill changes no byte outside the row's pixels. -/
theorem fillRow_other {base : Nat} {scry : Int} {v : Int → Half} {s : State} {a : Nat}
    (h : ∀ x, s.clipLeft ≤ x → x < s.clipRight → ¬ s.pixelByte base scry x a) :
    (fillRow base scry v s).fbByte a = s.fbByte a := by
  refine (foldState_fbByte (R := fun t => t = { s with fbram := t.fbram }) (fun x hx t ht => ⟨?_, ?_⟩) rfl).1
  · obtain ⟨h1, h2⟩ := mem_intRange.1 hx
    have hn := h x h1 h2
    have e : ∀ i, fbByteAddr t.cfg i = fbByteAddr s.cfg i := fun i => by rw [ht]
    have e2 : pixelAddr t base scry x = pixelAddr s base scry x := by
      rw [ht]; rfl
    refine fbWrite16_other (fun k => hn (.inl ?_)) (fun k => hn (.inr ?_))
    · rw [k, e, e2]
    · rw [k, e, e2]
  · rw [ht]; rfl

/-! ### Texture memory -/

/-- The memory of a unit after a texture-memory write of a word at address `a` (42_texture.md R291, R292). -/
def texWriteRam (p : Params) (u : TmuId) (a : Nat) (d : Word) (m : Memory) : Memory :=
  Memory.write (Memory.write (Memory.write (Memory.write m (texMask p u a) (field d 0 8)) (texMask p u (a + 1))
    (field d 8 8)) (texMask p u (a + 2)) (field d 16 8)) (texMask p u (a + 3)) (field d 24 8)

/-- A texture-memory write of a word changes the unit's memory alone. -/
theorem texWriteWord_eq (u : TmuId) (a : Nat) (d : Word) (s : State) :
    texWriteWord u a d s = s.setTmu u { s.tmu u with ram := texWriteRam s.cfg u a d (s.tmu u).ram } := by
  simp only [texWriteWord, texWrite8, setTmu_tmu_self, setTmu_setTmu, setTmu_cfg, texWriteRam]

/-- A texture-memory write keeps the memory canonical and inside its size. -/
theorem texWriteRam_sound {p : Params} {u : TmuId} {a : Nat} {d : Word} {m : Memory} (h : m.wf = true)
    (hb : tableBelow (2 ^ texBits p u) m = true) :
    (texWriteRam p u a d m).wf = true ∧ tableBelow (2 ^ texBits p u) (texWriteRam p u a d m) = true := by
  have lt : ∀ k, texMask p u k < 2 ^ texBits p u := fun k => Nat.mod_lt _ (Nat.two_pow_pos _)
  exact ⟨Memory.wf_write (Memory.wf_write (Memory.wf_write (Memory.wf_write h))),
    tableBelow_writeTable (tableBelow_writeTable (tableBelow_writeTable (tableBelow_writeTable hb (lt _)) (lt _))
      (lt _)) (lt _)⟩

/-- Everything a texture write can do (42_texture.md R290): a logged drop without a unit, the refusal of tdirect_write, a
logged drop of a bad LOD, or the unit brought up to date and the store. -/
theorem textureWrite_cases (unit : BitVec 2) (lod : BitVec 4) (row : Byte) (sword : BitVec 7) (data : Word) (s : State) :
    (presentUnit s.cfg.chipmask unit = none ∧
      textureWrite unit lod row sword data s = dropWrite (.texNoUnit unit) s) ∨
    ∃ u, presentUnit s.cfg.chipmask unit = some u ∧
      ((s.cfg.gen = .v2 ∧ tlDirectWrite (s.tLOD u) = true ∧
        textureWrite unit lod row sword data s = .refused .texDirectWrite) ∨
      (8 < lod.toNat ∧ textureWrite unit lod row sword data s = dropWrite (.texBadLod lod) s) ∨
      (lod.toNat ≤ 8 ∧ textureWrite unit lod row sword data s =
        .next (s.setTmu u { s.currentTmu u with
          ram := texWriteRam s.cfg u
            (texWriteAddr (s.setTmu u (s.currentTmu u)) u lod.toNat row.toNat sword.toNat)
            (texWriteData (s.tLOD u) data) (s.tmu u).ram }))) := by
  unfold textureWrite
  split
  · next h => exact .inl ⟨h, rfl⟩
  · next u h =>
    refine .inr ⟨u, h, ?_⟩
    split
    · next hd => exact .inl ⟨hd.1, hd.2, rfl⟩
    · refine .inr ?_
      split
      · next hl => exact .inl ⟨hl, rfl⟩
      · refine .inr ⟨by omega, ?_⟩
        have hram : (s.currentTmu u).ram = (s.tmu u).ram := by unfold State.currentTmu; split <;> rfl
        have htl : (s.setTmu u (s.currentTmu u)).tLOD u = s.tLOD u := setTmu_tmuReg _ _ _ _ _
        simp only [recomputeIfDirty_eq, texWriteWord_eq, setTmu_tmu_self, setTmu_setTmu, setTmu_cfg, hram, htl]

end Sys2Proof.Machine
end

