-- ==== Sys2Proof/Laws/Invariant.lean ====
section
/-! SUPPORT. The invariant of the block: how each kind of change keeps it. -/

namespace Sys2Proof.Machine

/-! ### Parts of the invariant -/

theorem State.Inv.regsWf {s : State} (h : s.Inv) : tableWf 0 s.regs = true := by
  have := h.tables
  simp only [State.tablesSound, Bool.and_eq_true] at this
  exact this.1.1.1.1.1.1.1

theorem State.Inv.regsBelow {s : State} (h : s.Inv) : tableBelow 1024 s.regs = true := by
  have := h.tables
  simp only [State.tablesSound, Bool.and_eq_true] at this
  exact this.1.1.1.1.1.1.2

theorem State.Inv.fbramWf {s : State} (h : s.Inv) : s.fbram.wf = true := by
  have := h.tables
  simp only [State.tablesSound, Bool.and_eq_true] at this
  exact this.1.2

theorem State.Inv.fbramBelow {s : State} (h : s.Inv) : tableBelow (2 ^ s.cfg.fbBits) s.fbram = true := by
  have := h.tables
  simp only [State.tablesSound, Bool.and_eq_true] at this
  exact this.2

/-- The FBI is present (10_state.md R22). -/
theorem State.Inv.fbiPresent {s : State} (h : s.Inv) : bit s.cfg.chipmask 0 = true := by
  have := h.params
  simp only [Params.wellFormed, Params.chipmaskLegal, Bool.and_eq_true, Bool.or_eq_true, beq_iff_eq] at this
  rcases this.1.1.1 with (hm | hm) | hm <;> rw [hm] <;> rfl

/-- The sound unit of the invariant. -/
theorem State.Inv.tmuSound {s : State} (h : s.Inv) (u : TmuId) : (s.tmu u).sound (texBits s.cfg u) = true := by
  cases u
  · exact h.tmu0
  · exact h.tmu1

theorem State.Inv.derivedSound {s : State} (h : s.Inv) (u : TmuId) : s.derivedSound u = true := by
  cases u
  · exact h.derived0
  · exact h.derived1

/-! ### Changes the invariant does not see -/

/-- A change of the iterators of the FBI, the setup buffer, the statistics, the ports and the draw count. -/
theorem State.Inv.other {s : State} (h : s.Inv) (fbi : FbiIter) (setup : SetupBuffer) (stats : Stats) (fatal : Bool)
    (log : List LogEvent) (inbox : List HostInput) (display : DisplaySample) (readData : Word)
    (hostEvents : List HostEvent) (draws : Nat) :
    State.Inv { s with fbi := fbi, setup := setup, stats := stats, fatal := fatal, log := log, inbox := inbox,
                       display := display, readData := readData, hostEvents := hostEvents, draws := draws } :=
  ⟨h.params, h.tables, h.tmu0, h.tmu1, h.present, h.derived0, h.derived1, h.layout, h.cache, h.swap⟩

/-- A change of frame-buffer memory that keeps it canonical and inside its size. -/
theorem State.Inv.fbram {s : State} (h : s.Inv) {m : Memory} (hw : m.wf = true)
    (hb : tableBelow (2 ^ s.cfg.fbBits) m = true) : State.Inv { s with fbram := m } := by
  refine ⟨h.params, ?_, h.tmu0, h.tmu1, h.present, h.derived0, h.derived1, h.layout, h.cache, h.swap⟩
  have := h.tables
  simp only [State.tablesSound, Bool.and_eq_true] at this ⊢
  exact ⟨⟨this.1.1, hw⟩, hb⟩

theorem State.Inv.fbWrite16 {s : State} (h : s.Inv) (a : Int) (v : Half) : (fbWrite16 a v s).Inv :=
  h.fbram (fbWrite16_wf h.fbramWf) (fbWrite16_below h.fbramBelow)

/-- A change of the cache. -/
theorem State.Inv.cacheStates {s : State} (h : s.Inv) {c : List RenderKey} (hc : c.Nodup)
    (hl : c.length ≤ Config.cacheCapacity - s.cfg.cacheReserved) : State.Inv { s with cacheStates := c } := by
  refine ⟨h.params, h.tables, h.tmu0, h.tmu1, h.present, h.derived0, h.derived1, h.layout, ?_, h.swap⟩
  simp only [State.cacheSound, Bool.and_eq_true, decide_eq_true_eq]
  exact ⟨hc, hl⟩

/-- A change of the buffer selection. -/
theorem State.Inv.swapState {s : State} (h : s.Inv) {w : SwapState} (hw : State.swapSound { s with swap := w } = true) :
    State.Inv { s with swap := w } :=
  ⟨h.params, h.tables, h.tmu0, h.tmu1, h.present, h.derived0, h.derived1, h.layout, h.cache, hw⟩

/-- A change of one unit that keeps it sound. -/
theorem State.Inv.setTmu {s : State} (h : s.Inv) {u : TmuId} {t : Tmu} (ht : t.sound (texBits s.cfg u) = true)
    (hd : (s.setTmu u t).derivedSound u = true) : (s.setTmu u t).Inv := by
  cases u
  · exact ⟨h.params, h.tables, ht, h.tmu1, h.present, hd, h.derived1, h.layout, h.cache, h.swap⟩
  · exact ⟨h.params, h.tables, h.tmu0, ht, h.present, h.derived0, hd, h.layout, h.cache, h.swap⟩

/-! ### The register file -/

/-- Every listed slot of a table satisfies the presence rule after a write to a present chip. -/
theorem presentSlots_write {s : State} {k : Nat} {v : Word} (h : s.presentSlots = true)
    (hk : bit s.cfg.chipmask (k / 256) = true) : (s.setSlot k v).presentSlots = true :=
  all_writeTable h hk

/-- A register write to a slot that no derived state and no layout rests on. -/
theorem State.Inv.setFbiReg {s : State} (h : s.Inv) {n : RegNum} {v : Word}
    (hn : n ≠ 0x85 ∧ n ≠ 0x86 ∧ n ≠ 0x87 ∧ n ≠ 0x91) : (s.setFbiReg n v).Inv := by
  have hf : ∀ m, m ≠ n → (s.setFbiReg n v).fbiReg m = s.fbiReg m := fun m hm =>
    slot_setSlot_other fun e => hm (slotOf_inj e).2
  have ht : ∀ u m, (s.setFbiReg n v).tmuReg u m = s.tmuReg u m := fun u m =>
    slot_setSlot_other fun e => by have := (slotOf_inj e).1; cases u <;> cases this
  refine ⟨h.params, ?_, h.tmu0, h.tmu1, ?_, ?_, ?_, ?_, h.cache, h.swap⟩
  · have := h.tables
    simp only [State.tablesSound, Bool.and_eq_true] at this ⊢
    exact ⟨⟨⟨⟨⟨⟨⟨tableWf_writeTable this.1.1.1.1.1.1.1,
      tableBelow_writeTable this.1.1.1.1.1.1.2 (slotOf_lt (by decide) n)⟩, this.1.1.1.1.1.2⟩, this.1.1.1.1.2⟩,
      this.1.1.1.2⟩, this.1.1.2⟩, this.1.2⟩, this.2⟩
  · exact presentSlots_write h.present (by rw [slotOf_div]; exact h.fbiPresent)
  · have := h.derived0
    simp only [State.derivedSound, State.derived, State.textureMode, State.tLOD, State.tDetail, State.texBase,
      State.texBaseAddr, ht] at this ⊢
    exact this
  · have := h.derived1
    simp only [State.derivedSound, State.derived, State.textureMode, State.tLOD, State.tDetail, State.texBase,
      State.texBaseAddr, ht] at this ⊢
    exact this
  · have := h.layout
    simp only [State.layoutSound, State.fbiInit1, State.fbiInit2, State.fbiInit3, State.fbiInit5,
      hf 0x85 hn.1.symm, hf 0x86 hn.2.1.symm, hf 0x87 hn.2.2.1.symm, hf 0x91 hn.2.2.2.symm] at this ⊢
    exact this

/-- What a register store keeps: everything but the derived state of the units whose registers it writes and the layout
of the init registers (40_register_access.md R174). -/
structure StoredInv (s : State) (chips : ChipSet) (n : RegNum) (t : State) : Prop where
  frame : t = { s with regs := t.regs }
  tables : t.tablesSound = true
  present : t.presentSlots = true
  derived : ∀ u, (bit chips (chipOf u) = false ∨ n.toNat < 0xC0 ∨ 0xC7 ≤ n.toNat) → t.derivedSound u = true
  layout : n ≠ 0x85 → n ≠ 0x86 → n ≠ 0x87 → n ≠ 0x91 → t.layoutSound = true

/-- The store of one chip keeps the file canonical, inside its size and on present chips. -/
theorem storeChip_tables {s : State} {chips : ChipSet} {n : RegNum} {data : Word} {c : Nat} (hc : c < 4)
    (hs : bit chips c = true → bit s.cfg.chipmask c = true) (ht : s.tablesSound = true) (hp : s.presentSlots = true) :
    (storeChip chips n data c s).tablesSound = true ∧ (storeChip chips n data c s).presentSlots = true ∧
      (storeChip chips n data c s).cfg = s.cfg := by
  unfold storeChip
  split
  · next hb =>
    refine ⟨?_, presentSlots_write hp (by rw [slotOf_div]; exact hs hb), rfl⟩
    simp only [State.tablesSound, Bool.and_eq_true] at ht ⊢
    exact ⟨⟨⟨⟨⟨⟨⟨tableWf_writeTable ht.1.1.1.1.1.1.1,
      tableBelow_writeTable ht.1.1.1.1.1.1.2 (slotOf_lt hc n)⟩, ht.1.1.1.1.1.2⟩, ht.1.1.1.1.2⟩, ht.1.1.1.2⟩, ht.1.1.2⟩,
      ht.1.2⟩, ht.2⟩
  · exact ⟨ht, hp, rfl⟩

/-- A store to present chips from a state of the invariant. -/
theorem State.Inv.stored {s : State} (h : s.Inv) {chips : ChipSet} {n : RegNum} {data : Word}
    (hs : ∀ c, bit chips c = true → bit s.cfg.chipmask c = true) :
    StoredInv s chips n (storeChips chips n data s) := by
  obtain ⟨a0, b0, c0⟩ := storeChip_tables (n := n) (data := data) (c := 0) (by decide) (hs 0) h.tables h.present
  obtain ⟨a1, b1, c1⟩ := storeChip_tables (n := n) (data := data) (c := 1) (by decide) (by rw [c0]; exact hs 1) a0 b0
  obtain ⟨a2, b2, c2⟩ := storeChip_tables (n := n) (data := data) (c := 2) (by decide) (by rw [c1, c0]; exact hs 2) a1 b1
  obtain ⟨a3, b3, c3⟩ := storeChip_tables (n := n) (data := data) (c := 3) (by decide)
    (by rw [c2, c1, c0]; exact hs 3) a2 b2
  have hfr := storeChips_frame chips n data s
  refine ⟨hfr, a3, b3, fun u hu => ?_, fun h1 h2 h3 h4 => ?_⟩
  · have ht : ∀ m : RegNum, 0xC0 ≤ m.toNat → m.toNat < 0xC7 →
        (storeChips chips n data s).tmuReg u m = s.tmuReg u m := fun m hm hm' => by
      refine slot_storeChips_other fun c _ hb e => ?_
      obtain ⟨rfl, rfl⟩ := slotOf_inj e
      rcases hu with hu | hu | hu
      · rw [hu] at hb; cases hb
      · omega
      · omega
    have htmu : (storeChips chips n data s).tmu u = s.tmu u := by rw [hfr]; cases u <;> rfl
    have hcfg : (storeChips chips n data s).cfg = s.cfg := by rw [hfr]
    have := h.derivedSound u
    simp only [State.derivedSound, State.derived, State.textureMode, State.tLOD, State.tDetail, State.texBase,
      State.texBaseAddr, htmu, hcfg, ht 0xC0 (by decide) (by decide), ht 0xC1 (by decide) (by decide),
      ht 0xC2 (by decide) (by decide), ht 0xC3 (by decide) (by decide)] at this ⊢
    exact this
  · have hcfg : (storeChips chips n data s).cfg = s.cfg := by rw [hfr]
    have hsurf : (storeChips chips n data s).surf = s.surf := by rw [hfr]
    have := h.layout
    simp only [State.layoutSound, State.fbiInit1, State.fbiInit2, State.fbiInit3, State.fbiInit5, hcfg, hsurf,
      storeChips_fbiReg h1.symm, storeChips_fbiReg h2.symm, storeChips_fbiReg h3.symm,
      storeChips_fbiReg h4.symm] at this ⊢
    exact this

/-- A store that reaches no derived state and no layout keeps the invariant. -/
theorem StoredInv.inv {s t : State} {chips : ChipSet} {n : RegNum} (h : s.Inv) (k : StoredInv s chips n t)
    (hd : ∀ u, bit chips (chipOf u) = false ∨ n.toNat < 0xC0 ∨ 0xC7 ≤ n.toNat)
    (hl : n ≠ 0x85 ∧ n ≠ 0x86 ∧ n ≠ 0x87 ∧ n ≠ 0x91) : t.Inv := by
  have e : t.cfg = s.cfg ∧ t.tmu0 = s.tmu0 ∧ t.tmu1 = s.tmu1 ∧ t.cacheStates = s.cacheStates ∧ t.swap = s.swap ∧
      t.surf = s.surf := by rw [k.frame]; exact ⟨rfl, rfl, rfl, rfl, rfl, rfl⟩
  refine ⟨by rw [e.1]; exact h.params, k.tables, by rw [e.1, e.2.1]; exact h.tmu0, by rw [e.1, e.2.2.1]; exact h.tmu1,
    k.present, k.derived .t0 (hd .t0), k.derived .t1 (hd .t1), k.layout hl.1 hl.2.1 hl.2.2.1 hl.2.2.2, ?_, ?_⟩
  · unfold State.cacheSound; rw [e.1, e.2.2.2.1]; exact h.cache
  · unfold State.swapSound; rw [e.1, e.2.2.2.2.1, e.2.2.2.2.2]; exact h.swap

end Sys2Proof.Machine
end

