-- ==== Sys2Proof/Laws/Keeps.lean ====
section
/-! SUPPORT. Each shared operation keeps the invariant of the block. -/

namespace Sys2Proof.Machine

/-! ### Rendering -/

theorem stats_inv {s : State} (h : s.Inv) (k : Stats) : State.Inv { s with stats := k } :=
  h.other s.fbi s.setup k s.fatal s.log s.inbox s.display s.readData s.hostEvents s.draws

theorem stippleStep_inv {s : State} (h : s.Inv) : (stippleStep s).Inv := by
  unfold stippleStep
  split
  · exact h.setFbiReg ⟨by decide, by decide, by decide, by decide⟩
  · exact h

theorem writePixel_inv {p : PixelIn} {c : Argb} {depth : Int} {s : State} (h : s.Inv) :
    (writePixel p c depth s).Inv := by
  have hc : (writeColor p c s).Inv := by
    unfold writeColor
    split
    · exact h.fbWrite16 _ _
    · exact h
  refine stats_inv (s := writeAux p c.a depth (writeColor p c s)) ?_ _
  unfold writeAux
  split
  · exact hc
  · split
    · exact hc.fbWrite16 _ _
    · exact hc

theorem pixel_inv {p : PixelIn} {s t : State} (h : s.Inv) (ht : pixel p s = .next t) : t.Inv := by
  have hu : (stippleStep (addPixelsIn 1 s)).Inv := stippleStep_inv (stats_inv h _)
  rcases pixel_next ht with rfl | rfl | rfl | rfl | ⟨c, rfl⟩
  · exact stats_inv hu _
  · exact stats_inv hu _
  · exact stats_inv hu _
  · exact stats_inv hu _
  · exact writePixel_inv hu

theorem drawSpan_inv {base ntmu : Nat} {y scry xs xe : Int} {s t : State} (h : s.Inv)
    (ht : drawSpan base ntmu y scry xs xe s = .next t) : t.Inv := by
  unfold drawSpan at ht
  exact foldOut_inv (fun x a b ha hb => pixel_inv ha hb) h ht

theorem scanline_inv {base ntmu : Nat} {y xs xe : Int} {s t : State} (h : s.Inv)
    (ht : scanline base ntmu y xs xe s = .next t) : t.Inv := by
  unfold scanline at ht
  dsimp only at ht
  split at ht
  · exact drawSpan_inv h ht
  · split at ht
    · injection ht with ht
      rw [← ht]
      exact stats_inv (stats_inv h _) _
    · exact drawSpan_inv (stats_inv h _) ht

theorem rasterize_inv {base ntmu : Nat} {s t : State} (h : s.Inv) (ht : rasterize base ntmu s = .next t) : t.Inv := by
  have step : ∀ (sp : Span) (a b : State), a.Inv → scanline base ntmu sp.y sp.xs sp.xe a = .next b → b.Inv :=
    fun _ _ _ ha hb => scanline_inv ha hb
  unfold rasterize at ht
  exact foldOut_inv step h ht

/-! ### Units -/

theorem regenerateNcc_sound {n : NccTable} (h : n.sound = true) : (regenerateNcc n).sound = true := by
  simp only [NccTable.sound, Bool.and_eq_true, Bool.or_eq_true, decide_eq_true_eq] at h ⊢
  exact ⟨h.1, .inr rfl⟩

theorem ncc_sound {t : Tmu} {b : Nat} (h : t.sound b = true) (k : Bool) : (t.ncc k).sound = true := by
  simp only [Tmu.sound, Bool.and_eq_true] at h
  cases k
  · exact h.1.1.1.1.1
  · exact h.1.1.1.1.2

theorem setNcc_sound {t : Tmu} {b : Nat} {k : Bool} {n : NccTable} (h : t.sound b = true) (hn : n.sound = true) :
    (t.setNcc k n).sound b = true := by
  simp only [Tmu.sound, Bool.and_eq_true] at h ⊢
  cases k
  · exact ⟨⟨⟨⟨⟨hn, h.1.1.1.1.2⟩, h.1.1.1.2⟩, h.1.1.2⟩, h.1.2⟩, h.2⟩
  · exact ⟨⟨⟨⟨⟨h.1.1.1.1.1, hn⟩, h.1.1.1.2⟩, h.1.1.2⟩, h.1.2⟩, h.2⟩

theorem readied_sound {t : Tmu} {b : Nat} {tm : Word} (h : t.sound b = true) : (t.readied tm).sound b = true := by
  unfold Tmu.readied
  dsimp only
  split
  · exact setNcc_sound h (regenerateNcc_sound (ncc_sound h _))
  · exact h

/-- A unit equal to its own derivation stays so when fields the derivation keeps change. -/
theorem derive_kept {n : Nat} {tm tl td : Word} {base : Nat} {t : Tmu} (h : t = deriveTmu n tm tl td base t)
    (a b c : Grad64) (l : Int) (n0 n1 : NccTable) (p : Table (BitVec 24)) (m : Memory) :
    ({ t with s := a, t := b, w := c, lodbase := l, ncc0 := n0, ncc1 := n1, palette := p, ram := m } : Tmu) =
      deriveTmu n tm tl td base { t with s := a, t := b, w := c, lodbase := l, ncc0 := n0, ncc1 := n1, palette := p,
                                         ram := m } := by
  cases t
  simp only [deriveTmu, Tmu.mk.injEq, true_and, and_true] at h ⊢
  exact h

/-- A brought-up-to-date unit holds the derived state of its registers (42_texture.md R251). -/
theorem currentTmu_derived {s : State} {u : TmuId} (h : s.derivedSound u = true) :
    s.currentTmu u = deriveTmu (2 ^ texBits s.cfg u) (s.textureMode u) (s.tLOD u) (s.tDetail u) (s.texBase u)
      (s.currentTmu u) := by
  unfold State.currentTmu
  split
  · rfl
  · next hd =>
    have e : s.tmu u = s.derived u := by simpa [State.derivedSound, hd] using h
    exact e

/-- Every write to an NCC register leaves the unit dirty (40_register_access.md R179). -/
@[simp] theorem nccWriteTmu_dirty (table : Bool) (k : Nat) (d : Word) (t : Tmu) : (nccWriteTmu table k d t).dirty = true :=
  rfl

/-- A unit that holds its derived state is sound in that respect. -/
theorem derivedSound_setTmu {s : State} {u : TmuId} {t : Tmu}
    (h : t = deriveTmu (2 ^ texBits s.cfg u) (s.textureMode u) (s.tLOD u) (s.tDetail u) (s.texBase u) t) :
    (s.setTmu u t).derivedSound u = true := by
  unfold State.derivedSound State.derived State.texBase State.texBaseAddr State.tLOD State.tDetail
  rw [setTmu_textureMode]
  simp only [setTmu_tmu_self, setTmu_cfg, setTmu_tmuReg, Bool.or_eq_true, decide_eq_true_eq]
  exact .inr h

theorem currentTmu_sound {s : State} {u : TmuId} {b : Nat} (h : (s.tmu u).sound b = true) :
    (s.currentTmu u).sound b = true := by
  unfold State.currentTmu
  split
  · exact h
  · exact h

theorem readied_derived {n : Nat} {tm tl td : Word} {base : Nat} {t : Tmu} (h : t = deriveTmu n tm tl td base t)
    (m : Word) : t.readied m = deriveTmu n tm tl td base (t.readied m) := by
  unfold Tmu.readied
  dsimp only
  split
  · cases hk : tmNccSelect m
    · exact derive_kept h t.s t.t t.w _ _ t.ncc1 t.palette t.ram
    · exact derive_kept h t.s t.t t.w _ t.ncc0 _ t.palette t.ram
  · exact derive_kept h t.s t.t t.w _ t.ncc0 t.ncc1 t.palette t.ram

/-- Adjusting the start values keeps the invariant (41_triangle.md R231). -/
theorem adjusted_inv {s : State} (h : s.Inv) (n : Nat) : (s.adjusted n).Inv := by
  have hd := fun u => adjusted_derivedSound (n := n) (h.derivedSound u)
  have key : (s.adjusted n).tmu0.sound s.cfg.texBits0 = true ∧ (s.adjusted n).tmu1.sound s.cfg.texBits1 = true := by
    unfold State.adjusted
    split
    · rw [subpixelAdjust_eq]
      constructor
      · dsimp only; split <;> exact h.tmu0
      · dsimp only; split <;> exact h.tmu1
    · exact ⟨h.tmu0, h.tmu1⟩
  have e := adjusted_eq s n
  generalize hq : s.adjusted n = q at *
  have h0 := hd .t0
  have h1 := hd .t1
  rw [e] at h0 h1 ⊢
  exact ⟨h.params, h.tables, key.1, key.2, h.present, h0, h1, h.layout, h.cache, h.swap⟩

theorem prepareTmu_inv {u : TmuId} {s : State} (h : s.Inv) : (prepareTmu u s).Inv := by
  rw [prepareTmu_eq]
  exact h.setTmu (readied_sound (currentTmu_sound (h.tmuSound u)))
    (derivedSound_setTmu (readied_derived (currentTmu_derived (h.derivedSound u)) _))

/-- The steps of a triangle before the cache lookup keep the invariant (41_triangle.md R212). -/
theorem prepareTriangle_inv {s : State} (h : s.Inv) : (prepareTriangle s.ntmu s).Inv :=
  foldState_inv (P := State.Inv) (fun _ _ hs => prepareTmu_inv hs) (adjusted_inv h s.ntmu)

theorem cacheLookup_inv {key : RenderKey} {s t : State} (h : s.Inv) (ht : cacheLookup key s = .next t) : t.Inv := by
  have hc := h.cache
  simp only [State.cacheSound, Bool.and_eq_true, decide_eq_true_eq] at hc
  unfold cacheLookup at ht
  split at ht
  · cases ht; exact h
  · next hm =>
    split at ht
    · cases ht
    · next hl =>
      injection ht with ht
      rw [← ht]
      refine h.cacheStates ?_ ?_
      · exact List.Nodup.append hc.1 (List.nodup_singleton key) (by simpa using hm)
      · rw [List.length_append, List.length_singleton]; omega

/-- A triangle keeps the invariant (41_triangle.md R212). -/
theorem triangle_inv {s t : State} (h : s.Inv) (ht : triangle s = .next t) : t.Inv := by
  unfold triangle at ht
  split at ht
  · cases ht; exact h
  · obtain ⟨b, hb, ht⟩ := andThen_eq_next.1 ht
    exact rasterize_inv (stats_inv (cacheLookup_inv (prepareTriangle_inv h) hb) _) ht

/-! ### Setup, fast fill, the linear frame buffer and texture memory -/

theorem setupOnly_inv {s t : State} (h : s.Inv) (k : SetupOnly s t) : t.Inv := by
  have h0 := (k.derivedSound .t0).2 h.derived0
  have h1 := (k.derivedSound .t1).2 h.derived1
  unfold SetupOnly at k
  rw [k] at h0 h1 ⊢
  exact ⟨h.params, h.tables, h.tmu0, h.tmu1, h.present, h0, h1, h.layout, h.cache, h.swap⟩

theorem drawTriangle_inv {s t : State} (h : s.Inv) (ht : drawTriangle s = .next t) : t.Inv := by
  have hp : (pushVertex s).Inv :=
    h.other s.fbi (pushVertex s).setup s.stats s.fatal s.log s.inbox s.display s.readData s.hostEvents s.draws
  unfold drawTriangle at ht
  dsimp only at ht
  split at ht
  · unfold setupTriangle at ht
    dsimp only at ht
    generalize hq : pushVertex s = q at *
    have hpos : (setupPositions q).Inv :=
      hp.other (setupPositions q).fbi q.setup q.stats q.fatal q.log q.inbox q.display q.readData q.hostEvents
        (setupPositions q).draws
    split at ht
    · cases ht; exact hpos
    · exact triangle_inv (setupOnly_inv hpos (setupParams_only _ _ _)) ht
  · cases ht; exact hp

theorem fillRow_inv {base : Nat} {scry : Int} {v : Int → Half} {s : State} (h : s.Inv) :
    (fillRow base scry v s).Inv :=
  foldState_inv (P := State.Inv) (fun _ _ hs => hs.fbWrite16 _ _) h

theorem fastfill_inv {s : State} (h : s.Inv) : (fastfill s).Inv := by
  have key : ∀ (y : Int) (a : State), a.Inv → (fillAuxRow y (fillColorRow y a)).Inv := by
    intro y a ha
    have hc : (fillColorRow y a).Inv := by
      unfold fillColorRow
      split
      · exact ha
      · split
        · exact stats_inv (fillRow_inv ha) _
        · exact ha
    unfold fillAuxRow
    split
    · exact hc
    · split
      · exact fillRow_inv hc
      · exact hc
  exact foldState_inv key h

theorem rawPixel_inv {base : Nat} {c : LfbCarries} {p : LfbPixel} {x y : Int} {s : State} (h : s.Inv) :
    (rawPixel base c p x y s).Inv := by
  have hc : (rawColor base c p x y (lfbScreenY s y) s).Inv := by
    unfold rawColor
    split
    · exact h.fbWrite16 _ _
    · exact h
  refine stats_inv (s := rawAux c p x (lfbScreenY s y) (rawColor base c p x y (lfbScreenY s y) s)) ?_ _
  rcases rawAux_cases c p x (lfbScreenY s y) (rawColor base c p x y (lfbScreenY s y) s) with k | ⟨aux, v, -, k⟩
  · rw [k]; exact hc
  · rw [k]; exact hc.fbWrite16 _ _

theorem lfbWritePixel_inv {base : Nat} {c : LfbCarries} {l : BitVec 20} {data : Word} {k : Nat} {s t : State}
    (h : s.Inv) (ht : lfbWritePixel base c l data k s = .next t) : t.Inv := by
  unfold lfbWritePixel pipelinePixel at ht
  dsimp only at ht
  split at ht
  · split at ht
    · cases ht; exact h
    · split at ht
      · injection ht with ht
        rw [← ht]
        exact stats_inv (stats_inv h _) _
      · exact pixel_inv h ht
  · injection ht with ht
    rw [← ht]
    exact rawPixel_inv h

theorem log_inv {s : State} (h : s.Inv) (l : List LogEvent) : State.Inv { s with log := l } :=
  h.other s.fbi s.setup s.stats s.fatal l s.inbox s.display s.readData s.hostEvents s.draws

theorem textureWrite_inv {unit : BitVec 2} {lod : BitVec 4} {row : Byte} {sword : BitVec 7} {data : Word} {s t : State}
    (h : s.Inv) (ht : textureWrite unit lod row sword data s = .next t) : t.Inv := by
  rcases textureWrite_cases unit lod row sword data s with
    ⟨-, k⟩ | ⟨u, -, ⟨-, -, k⟩ | ⟨-, k⟩ | ⟨-, k⟩⟩ <;> rw [k] at ht
  · cases ht; exact log_inv h _
  · cases ht
  · cases ht; exact log_inv h _
  · injection ht with ht
    rw [← ht]
    have hs := currentTmu_sound (s := s) (h.tmuSound u)
    have hm := h.tmuSound u
    simp only [Tmu.sound, Bool.and_eq_true] at hs hm
    have hr := texWriteRam_sound (p := s.cfg) (u := u)
      (a := texWriteAddr (s.setTmu u (s.currentTmu u)) u lod.toNat row.toNat sword.toNat) (d := texWriteData (s.tLOD u) data) hm.1.2 hm.2
    refine h.setTmu ?_ (derivedSound_setTmu ?_)
    · simp only [Tmu.sound, Bool.and_eq_true]
      exact ⟨⟨hs.1.1, hr.1⟩, hr.2⟩
    · exact derive_kept (currentTmu_derived (h.derivedSound u)) (s.currentTmu u).s (s.currentTmu u).t (s.currentTmu u).w
        (s.currentTmu u).lodbase (s.currentTmu u).ncc0 (s.currentTmu u).ncc1 (s.currentTmu u).palette _

/-! ### Layout and swap -/

theorem swapBuffers_inv {s : State} (h : s.Inv) : (swapBuffers s).Inv := by
  have hw := h.swap
  simp only [State.swapSound, Bool.and_eq_true, Bool.or_eq_true, Bool.not_eq_true', decide_eq_true_eq] at hw
  have hk : State.swapSound { s with swap := (swapBuffers s).swap } = true := by
    simp only [State.swapSound, Bool.and_eq_true, Bool.or_eq_true, Bool.not_eq_true', decide_eq_true_eq]
    refine ⟨⟨by simp, .inl (by simp)⟩, ?_⟩
    rcases hw.2 with hr | hr
    · exact .inl hr
    · cases h2 : s.surf.rgb2 with
      | none => exact .inr (swapBuffers_two h2 hr.1 hr.2)
      | some v => exact .inl rfl
  rw [swapBuffers_frame]
  exact (h.swapState hk).other s.fbi s.setup s.stats s.fatal s.log s.inbox s.display s.readData _ s.draws

/-- The VBlank event keeps the invariant (44_commands.md R372). -/
theorem vblank_inv {s : State} (h : s.Inv) : (vblank s).Inv := by
  have hw := h.swap
  simp only [State.swapSound, Bool.and_eq_true, decide_eq_true_eq] at hw
  have hc : State.Inv { s with swap := { s.swap with vblankCount := min (s.swap.vblankCount + 1) 250 } } := by
    refine h.swapState ?_
    simp only [State.swapSound, Bool.and_eq_true, decide_eq_true_eq]
    exact ⟨⟨min_le_right _ _, hw.1.2⟩, hw.2⟩
  unfold vblank
  dsimp only
  split
  · exact swapBuffers_inv hc
  · exact hc

end Sys2Proof.Machine
end

