-- ==== Sys2Proof/Laws/PerInstr.lean ====
section
/-! SUPPORT. Per-instruction laws. TableRow: the encoder's address of every transaction has the fixed bits of its row of
opcode_table.json. -/

namespace Sys2Proof.Laws.TableRow

/-- The fixed bits of a row of opcode_table.json: an address of the row agrees with `value` under `mask`. -/
structure Row where
  mask : BitVec 24
  value : BitVec 24

/-- The row of each transaction, as opcode_table.json gives it. -/
def row (i : Instr) : Row :=
  match i with
  | .status _ => ⟨0xC003FC, 0x000000⟩
  | .intrCtrl _ => ⟨0xC003FC, 0x000004⟩
  | .vertexAx _ => ⟨0xC003FC, 0x000008⟩
  | .vertexAy _ => ⟨0xC003FC, 0x00000C⟩
  | .vertexBx _ => ⟨0xC003FC, 0x000010⟩
  | .vertexBy _ => ⟨0xC003FC, 0x000014⟩
  | .vertexCx _ => ⟨0xC003FC, 0x000018⟩
  | .vertexCy _ => ⟨0xC003FC, 0x00001C⟩
  | .startR _ => ⟨0xC003FC, 0x000020⟩
  | .startG _ => ⟨0xC003FC, 0x000024⟩
  | .startB _ => ⟨0xC003FC, 0x000028⟩
  | .startZ _ => ⟨0xC003FC, 0x00002C⟩
  | .startA _ => ⟨0xC003FC, 0x000030⟩
  | .startS _ => ⟨0xC003FC, 0x000034⟩
  | .startT _ => ⟨0xC003FC, 0x000038⟩
  | .startW _ => ⟨0xC003FC, 0x00003C⟩
  | .dRdX _ => ⟨0xC003FC, 0x000040⟩
  | .dGdX _ => ⟨0xC003FC, 0x000044⟩
  | .dBdX _ => ⟨0xC003FC, 0x000048⟩
  | .dZdX _ => ⟨0xC003FC, 0x00004C⟩
  | .dAdX _ => ⟨0xC003FC, 0x000050⟩
  | .dSdX _ => ⟨0xC003FC, 0x000054⟩
  | .dTdX _ => ⟨0xC003FC, 0x000058⟩
  | .dWdX _ => ⟨0xC003FC, 0x00005C⟩
  | .dRdY _ => ⟨0xC003FC, 0x000060⟩
  | .dGdY _ => ⟨0xC003FC, 0x000064⟩
  | .dBdY _ => ⟨0xC003FC, 0x000068⟩
  | .dZdY _ => ⟨0xC003FC, 0x00006C⟩
  | .dAdY _ => ⟨0xC003FC, 0x000070⟩
  | .dSdY _ => ⟨0xC003FC, 0x000074⟩
  | .dTdY _ => ⟨0xC003FC, 0x000078⟩
  | .dWdY _ => ⟨0xC003FC, 0x00007C⟩
  | .triangleCMD _ => ⟨0xC003FC, 0x000080⟩
  | .fvertexAx _ => ⟨0xC003FC, 0x000088⟩
  | .fvertexAy _ => ⟨0xC003FC, 0x00008C⟩
  | .fvertexBx _ => ⟨0xC003FC, 0x000090⟩
  | .fvertexBy _ => ⟨0xC003FC, 0x000094⟩
  | .fvertexCx _ => ⟨0xC003FC, 0x000098⟩
  | .fvertexCy _ => ⟨0xC003FC, 0x00009C⟩
  | .fstartR _ => ⟨0xC003FC, 0x0000A0⟩
  | .fstartG _ => ⟨0xC003FC, 0x0000A4⟩
  | .fstartB _ => ⟨0xC003FC, 0x0000A8⟩
  | .fstartZ _ => ⟨0xC003FC, 0x0000AC⟩
  | .fstartA _ => ⟨0xC003FC, 0x0000B0⟩
  | .fstartS _ => ⟨0xC003FC, 0x0000B4⟩
  | .fstartT _ => ⟨0xC003FC, 0x0000B8⟩
  | .fstartW _ => ⟨0xC003FC, 0x0000BC⟩
  | .fdRdX _ => ⟨0xC003FC, 0x0000C0⟩
  | .fdGdX _ => ⟨0xC003FC, 0x0000C4⟩
  | .fdBdX _ => ⟨0xC003FC, 0x0000C8⟩
  | .fdZdX _ => ⟨0xC003FC, 0x0000CC⟩
  | .fdAdX _ => ⟨0xC003FC, 0x0000D0⟩
  | .fdSdX _ => ⟨0xC003FC, 0x0000D4⟩
  | .fdTdX _ => ⟨0xC003FC, 0x0000D8⟩
  | .fdWdX _ => ⟨0xC003FC, 0x0000DC⟩
  | .fdRdY _ => ⟨0xC003FC, 0x0000E0⟩
  | .fdGdY _ => ⟨0xC003FC, 0x0000E4⟩
  | .fdBdY _ => ⟨0xC003FC, 0x0000E8⟩
  | .fdZdY _ => ⟨0xC003FC, 0x0000EC⟩
  | .fdAdY _ => ⟨0xC003FC, 0x0000F0⟩
  | .fdSdY _ => ⟨0xC003FC, 0x0000F4⟩
  | .fdTdY _ => ⟨0xC003FC, 0x0000F8⟩
  | .fdWdY _ => ⟨0xC003FC, 0x0000FC⟩
  | .ftriangleCMD _ => ⟨0xC003FC, 0x000100⟩
  | .fbzColorPath _ => ⟨0xC003FC, 0x000104⟩
  | .fogMode _ => ⟨0xC003FC, 0x000108⟩
  | .alphaMode _ => ⟨0xC003FC, 0x00010C⟩
  | .fbzMode _ => ⟨0xC003FC, 0x000110⟩
  | .lfbMode _ => ⟨0xC003FC, 0x000114⟩
  | .clipLeftRight _ => ⟨0xC003FC, 0x000118⟩
  | .clipLowYHighY _ => ⟨0xC003FC, 0x00011C⟩
  | .nopCMD _ => ⟨0xC003FC, 0x000120⟩
  | .fastfillCMD _ => ⟨0xC003FC, 0x000124⟩
  | .swapbufferCMD _ => ⟨0xC003FC, 0x000128⟩
  | .fogColor _ => ⟨0xC003FC, 0x00012C⟩
  | .zaColor _ => ⟨0xC003FC, 0x000130⟩
  | .chromaKey _ => ⟨0xC003FC, 0x000134⟩
  | .chromaRange _ => ⟨0xC003FC, 0x000138⟩
  | .userIntrCMD _ => ⟨0xC003FC, 0x00013C⟩
  | .stipple _ => ⟨0xC003FC, 0x000140⟩
  | .color0 _ => ⟨0xC003FC, 0x000144⟩
  | .color1 _ => ⟨0xC003FC, 0x000148⟩
  | .fbiPixelsIn _ => ⟨0xC003FC, 0x00014C⟩
  | .fbiChromaFail _ => ⟨0xC003FC, 0x000150⟩
  | .fbiZfuncFail _ => ⟨0xC003FC, 0x000154⟩
  | .fbiAfuncFail _ => ⟨0xC003FC, 0x000158⟩
  | .fbiPixelsOut _ => ⟨0xC003FC, 0x00015C⟩
  | .fogTable0 _ => ⟨0xC003FC, 0x000160⟩
  | .fogTable1 _ => ⟨0xC003FC, 0x000164⟩
  | .fogTable2 _ => ⟨0xC003FC, 0x000168⟩
  | .fogTable3 _ => ⟨0xC003FC, 0x00016C⟩
  | .fogTable4 _ => ⟨0xC003FC, 0x000170⟩
  | .fogTable5 _ => ⟨0xC003FC, 0x000174⟩
  | .fogTable6 _ => ⟨0xC003FC, 0x000178⟩
  | .fogTable7 _ => ⟨0xC003FC, 0x00017C⟩
  | .fogTable8 _ => ⟨0xC003FC, 0x000180⟩
  | .fogTable9 _ => ⟨0xC003FC, 0x000184⟩
  | .fogTable10 _ => ⟨0xC003FC, 0x000188⟩
  | .fogTable11 _ => ⟨0xC003FC, 0x00018C⟩
  | .fogTable12 _ => ⟨0xC003FC, 0x000190⟩
  | .fogTable13 _ => ⟨0xC003FC, 0x000194⟩
  | .fogTable14 _ => ⟨0xC003FC, 0x000198⟩
  | .fogTable15 _ => ⟨0xC003FC, 0x00019C⟩
  | .fogTable16 _ => ⟨0xC003FC, 0x0001A0⟩
  | .fogTable17 _ => ⟨0xC003FC, 0x0001A4⟩
  | .fogTable18 _ => ⟨0xC003FC, 0x0001A8⟩
  | .fogTable19 _ => ⟨0xC003FC, 0x0001AC⟩
  | .fogTable20 _ => ⟨0xC003FC, 0x0001B0⟩
  | .fogTable21 _ => ⟨0xC003FC, 0x0001B4⟩
  | .fogTable22 _ => ⟨0xC003FC, 0x0001B8⟩
  | .fogTable23 _ => ⟨0xC003FC, 0x0001BC⟩
  | .fogTable24 _ => ⟨0xC003FC, 0x0001C0⟩
  | .fogTable25 _ => ⟨0xC003FC, 0x0001C4⟩
  | .fogTable26 _ => ⟨0xC003FC, 0x0001C8⟩
  | .fogTable27 _ => ⟨0xC003FC, 0x0001CC⟩
  | .fogTable28 _ => ⟨0xC003FC, 0x0001D0⟩
  | .fogTable29 _ => ⟨0xC003FC, 0x0001D4⟩
  | .fogTable30 _ => ⟨0xC003FC, 0x0001D8⟩
  | .fogTable31 _ => ⟨0xC003FC, 0x0001DC⟩
  | .cmdFifoBaseAddr _ => ⟨0xC003FC, 0x0001E0⟩
  | .cmdFifoBump _ => ⟨0xC003FC, 0x0001E4⟩
  | .cmdFifoRdPtr _ => ⟨0xC003FC, 0x0001E8⟩
  | .cmdFifoAMin _ => ⟨0xC003FC, 0x0001EC⟩
  | .cmdFifoAMax _ => ⟨0xC003FC, 0x0001F0⟩
  | .cmdFifoDepth _ => ⟨0xC003FC, 0x0001F4⟩
  | .cmdFifoHoles _ => ⟨0xC003FC, 0x0001F8⟩
  | .fbiInit4 _ => ⟨0xC003FC, 0x000200⟩
  | .vRetrace _ => ⟨0xC003FC, 0x000204⟩
  | .backPorch _ => ⟨0xC003FC, 0x000208⟩
  | .videoDimensions _ => ⟨0xC003FC, 0x00020C⟩
  | .fbiInit0 _ => ⟨0xC003FC, 0x000210⟩
  | .fbiInit1 _ => ⟨0xC003FC, 0x000214⟩
  | .fbiInit2 _ => ⟨0xC003FC, 0x000218⟩
  | .fbiInit3 _ => ⟨0xC003FC, 0x00021C⟩
  | .hSync _ => ⟨0xC003FC, 0x000220⟩
  | .vSync _ => ⟨0xC003FC, 0x000224⟩
  | .clutData _ => ⟨0xC003FC, 0x000228⟩
  | .dacData _ => ⟨0xC003FC, 0x00022C⟩
  | .maxRgbDelta _ => ⟨0xC003FC, 0x000230⟩
  | .hBorder _ => ⟨0xC003FC, 0x000234⟩
  | .vBorder _ => ⟨0xC003FC, 0x000238⟩
  | .borderColor _ => ⟨0xC003FC, 0x00023C⟩
  | .hvRetrace _ => ⟨0xC003FC, 0x000240⟩
  | .fbiInit5 _ => ⟨0xC003FC, 0x000244⟩
  | .fbiInit6 _ => ⟨0xC003FC, 0x000248⟩
  | .fbiInit7 _ => ⟨0xC003FC, 0x00024C⟩
  | .fbiSwapHistory _ => ⟨0xC003FC, 0x000258⟩
  | .fbiTrianglesOut _ => ⟨0xC003FC, 0x00025C⟩
  | .sSetupMode _ => ⟨0xC003FC, 0x000260⟩
  | .sVx _ => ⟨0xC003FC, 0x000264⟩
  | .sVy _ => ⟨0xC003FC, 0x000268⟩
  | .sARGB _ => ⟨0xC003FC, 0x00026C⟩
  | .sRed _ => ⟨0xC003FC, 0x000270⟩
  | .sGreen _ => ⟨0xC003FC, 0x000274⟩
  | .sBlue _ => ⟨0xC003FC, 0x000278⟩
  | .sAlpha _ => ⟨0xC003FC, 0x00027C⟩
  | .sVz _ => ⟨0xC003FC, 0x000280⟩
  | .sWb _ => ⟨0xC003FC, 0x000284⟩
  | .sWtmu0 _ => ⟨0xC003FC, 0x000288⟩
  | .sS_W0 _ => ⟨0xC003FC, 0x00028C⟩
  | .sT_W0 _ => ⟨0xC003FC, 0x000290⟩
  | .sWtmu1 _ => ⟨0xC003FC, 0x000294⟩
  | .sS_Wtmu1 _ => ⟨0xC003FC, 0x000298⟩
  | .sT_Wtmu1 _ => ⟨0xC003FC, 0x00029C⟩
  | .sDrawTriCMD _ => ⟨0xC003FC, 0x0002A0⟩
  | .sBeginTriCMD _ => ⟨0xC003FC, 0x0002A4⟩
  | .blt _ _ => ⟨0xC003C0, 0x0002C0⟩
  | .textureMode _ => ⟨0xC003FC, 0x000300⟩
  | .tLOD _ => ⟨0xC003FC, 0x000304⟩
  | .tDetail _ => ⟨0xC003FC, 0x000308⟩
  | .texBaseAddr _ => ⟨0xC003FC, 0x00030C⟩
  | .texBaseAddr_1 _ => ⟨0xC003FC, 0x000310⟩
  | .texBaseAddr_2 _ => ⟨0xC003FC, 0x000314⟩
  | .texBaseAddr_3_8 _ => ⟨0xC003FC, 0x000318⟩
  | .trexInit0 _ => ⟨0xC003FC, 0x00031C⟩
  | .trexInit1 _ => ⟨0xC003FC, 0x000320⟩
  | .nccTable0_0 _ => ⟨0xC003FC, 0x000324⟩
  | .nccTable0_1 _ => ⟨0xC003FC, 0x000328⟩
  | .nccTable0_2 _ => ⟨0xC003FC, 0x00032C⟩
  | .nccTable0_3 _ => ⟨0xC003FC, 0x000330⟩
  | .nccTable0_4 _ => ⟨0xC003FC, 0x000334⟩
  | .nccTable0_5 _ => ⟨0xC003FC, 0x000338⟩
  | .nccTable0_6 _ => ⟨0xC003FC, 0x00033C⟩
  | .nccTable0_7 _ => ⟨0xC003FC, 0x000340⟩
  | .nccTable0_8 _ => ⟨0xC003FC, 0x000344⟩
  | .nccTable0_9 _ => ⟨0xC003FC, 0x000348⟩
  | .nccTable0_10 _ => ⟨0xC003FC, 0x00034C⟩
  | .nccTable0_11 _ => ⟨0xC003FC, 0x000350⟩
  | .nccTable1_0 _ => ⟨0xC003FC, 0x000354⟩
  | .nccTable1_1 _ => ⟨0xC003FC, 0x000358⟩
  | .nccTable1_2 _ => ⟨0xC003FC, 0x00035C⟩
  | .nccTable1_3 _ => ⟨0xC003FC, 0x000360⟩
  | .nccTable1_4 _ => ⟨0xC003FC, 0x000364⟩
  | .nccTable1_5 _ => ⟨0xC003FC, 0x000368⟩
  | .nccTable1_6 _ => ⟨0xC003FC, 0x00036C⟩
  | .nccTable1_7 _ => ⟨0xC003FC, 0x000370⟩
  | .nccTable1_8 _ => ⟨0xC003FC, 0x000374⟩
  | .nccTable1_9 _ => ⟨0xC003FC, 0x000378⟩
  | .nccTable1_10 _ => ⟨0xC003FC, 0x00037C⟩
  | .nccTable1_11 _ => ⟨0xC003FC, 0x000380⟩
  | .lfbWr _ _ => ⟨0xC00000, 0x400000⟩
  | .lfbRd _ => ⟨0xC00000, 0x400000⟩
  | .texWr _ _ _ _ _ => ⟨0x800000, 0x800000⟩
  | .texRd _ _ _ _ => ⟨0x800000, 0x800000⟩

/-- The encoder's address of a well-formed transaction lies in its row. -/
def Statement (i : Instr) : Prop :=
  i.wellFormed = true → (encode i).addr &&& (row i).mask = (row i).value

/-- What the mask of a register row keeps of an address does not depend on the chip select. -/
theorem regAddr_row (c d : ChipSet) (n : RegNum) :
    regAddr c n &&& 0xC003FC#24 = regAddr d n &&& 0xC003FC#24 := by
  simp only [regAddr]
  ext i hi
  simp only [BitVec.getElem_and, BitVec.getElem_append]
  interval_cases i <;> simp

/-- The same of a register request. -/
theorem regRequest_row (n : RegNum) (a : RegAccess) :
    (regRequest n a).addr &&& 0xC003FC#24 = regAddr 0 n &&& 0xC003FC#24 := by
  cases a
  · rfl
  · exact regAddr_row _ _ n

theorem status (a : RegAccess) : Statement (.status a) := fun _ => (regRequest_row 0x00 a).trans rfl
theorem intrCtrl (a : RegAccess) : Statement (.intrCtrl a) := fun _ => (regRequest_row 0x01 a).trans rfl
theorem vertexAx (a : RegAccess) : Statement (.vertexAx a) := fun _ => (regRequest_row 0x02 a).trans rfl
theorem vertexAy (a : RegAccess) : Statement (.vertexAy a) := fun _ => (regRequest_row 0x03 a).trans rfl
theorem vertexBx (a : RegAccess) : Statement (.vertexBx a) := fun _ => (regRequest_row 0x04 a).trans rfl
theorem vertexBy (a : RegAccess) : Statement (.vertexBy a) := fun _ => (regRequest_row 0x05 a).trans rfl
theorem vertexCx (a : RegAccess) : Statement (.vertexCx a) := fun _ => (regRequest_row 0x06 a).trans rfl
theorem vertexCy (a : RegAccess) : Statement (.vertexCy a) := fun _ => (regRequest_row 0x07 a).trans rfl
theorem startR (a : RegAccess) : Statement (.startR a) := fun _ => (regRequest_row 0x08 a).trans rfl
theorem startG (a : RegAccess) : Statement (.startG a) := fun _ => (regRequest_row 0x09 a).trans rfl
theorem startB (a : RegAccess) : Statement (.startB a) := fun _ => (regRequest_row 0x0A a).trans rfl
theorem startZ (a : RegAccess) : Statement (.startZ a) := fun _ => (regRequest_row 0x0B a).trans rfl
theorem startA (a : RegAccess) : Statement (.startA a) := fun _ => (regRequest_row 0x0C a).trans rfl
theorem startS (a : RegAccess) : Statement (.startS a) := fun _ => (regRequest_row 0x0D a).trans rfl
theorem startT (a : RegAccess) : Statement (.startT a) := fun _ => (regRequest_row 0x0E a).trans rfl
theorem startW (a : RegAccess) : Statement (.startW a) := fun _ => (regRequest_row 0x0F a).trans rfl
theorem dRdX (a : RegAccess) : Statement (.dRdX a) := fun _ => (regRequest_row 0x10 a).trans rfl
theorem dGdX (a : RegAccess) : Statement (.dGdX a) := fun _ => (regRequest_row 0x11 a).trans rfl
theorem dBdX (a : RegAccess) : Statement (.dBdX a) := fun _ => (regRequest_row 0x12 a).trans rfl
theorem dZdX (a : RegAccess) : Statement (.dZdX a) := fun _ => (regRequest_row 0x13 a).trans rfl
theorem dAdX (a : RegAccess) : Statement (.dAdX a) := fun _ => (regRequest_row 0x14 a).trans rfl
theorem dSdX (a : RegAccess) : Statement (.dSdX a) := fun _ => (regRequest_row 0x15 a).trans rfl
theorem dTdX (a : RegAccess) : Statement (.dTdX a) := fun _ => (regRequest_row 0x16 a).trans rfl
theorem dWdX (a : RegAccess) : Statement (.dWdX a) := fun _ => (regRequest_row 0x17 a).trans rfl
theorem dRdY (a : RegAccess) : Statement (.dRdY a) := fun _ => (regRequest_row 0x18 a).trans rfl
theorem dGdY (a : RegAccess) : Statement (.dGdY a) := fun _ => (regRequest_row 0x19 a).trans rfl
theorem dBdY (a : RegAccess) : Statement (.dBdY a) := fun _ => (regRequest_row 0x1A a).trans rfl
theorem dZdY (a : RegAccess) : Statement (.dZdY a) := fun _ => (regRequest_row 0x1B a).trans rfl
theorem dAdY (a : RegAccess) : Statement (.dAdY a) := fun _ => (regRequest_row 0x1C a).trans rfl
theorem dSdY (a : RegAccess) : Statement (.dSdY a) := fun _ => (regRequest_row 0x1D a).trans rfl
theorem dTdY (a : RegAccess) : Statement (.dTdY a) := fun _ => (regRequest_row 0x1E a).trans rfl
theorem dWdY (a : RegAccess) : Statement (.dWdY a) := fun _ => (regRequest_row 0x1F a).trans rfl
theorem triangleCMD (a : RegAccess) : Statement (.triangleCMD a) := fun _ => (regRequest_row 0x20 a).trans rfl
theorem fvertexAx (a : RegAccess) : Statement (.fvertexAx a) := fun _ => (regRequest_row 0x22 a).trans rfl
theorem fvertexAy (a : RegAccess) : Statement (.fvertexAy a) := fun _ => (regRequest_row 0x23 a).trans rfl
theorem fvertexBx (a : RegAccess) : Statement (.fvertexBx a) := fun _ => (regRequest_row 0x24 a).trans rfl
theorem fvertexBy (a : RegAccess) : Statement (.fvertexBy a) := fun _ => (regRequest_row 0x25 a).trans rfl
theorem fvertexCx (a : RegAccess) : Statement (.fvertexCx a) := fun _ => (regRequest_row 0x26 a).trans rfl
theorem fvertexCy (a : RegAccess) : Statement (.fvertexCy a) := fun _ => (regRequest_row 0x27 a).trans rfl
theorem fstartR (a : RegAccess) : Statement (.fstartR a) := fun _ => (regRequest_row 0x28 a).trans rfl
theorem fstartG (a : RegAccess) : Statement (.fstartG a) := fun _ => (regRequest_row 0x29 a).trans rfl
theorem fstartB (a : RegAccess) : Statement (.fstartB a) := fun _ => (regRequest_row 0x2A a).trans rfl
theorem fstartZ (a : RegAccess) : Statement (.fstartZ a) := fun _ => (regRequest_row 0x2B a).trans rfl
theorem fstartA (a : RegAccess) : Statement (.fstartA a) := fun _ => (regRequest_row 0x2C a).trans rfl
theorem fstartS (a : RegAccess) : Statement (.fstartS a) := fun _ => (regRequest_row 0x2D a).trans rfl
theorem fstartT (a : RegAccess) : Statement (.fstartT a) := fun _ => (regRequest_row 0x2E a).trans rfl
theorem fstartW (a : RegAccess) : Statement (.fstartW a) := fun _ => (regRequest_row 0x2F a).trans rfl
theorem fdRdX (a : RegAccess) : Statement (.fdRdX a) := fun _ => (regRequest_row 0x30 a).trans rfl
theorem fdGdX (a : RegAccess) : Statement (.fdGdX a) := fun _ => (regRequest_row 0x31 a).trans rfl
theorem fdBdX (a : RegAccess) : Statement (.fdBdX a) := fun _ => (regRequest_row 0x32 a).trans rfl
theorem fdZdX (a : RegAccess) : Statement (.fdZdX a) := fun _ => (regRequest_row 0x33 a).trans rfl
theorem fdAdX (a : RegAccess) : Statement (.fdAdX a) := fun _ => (regRequest_row 0x34 a).trans rfl
theorem fdSdX (a : RegAccess) : Statement (.fdSdX a) := fun _ => (regRequest_row 0x35 a).trans rfl
theorem fdTdX (a : RegAccess) : Statement (.fdTdX a) := fun _ => (regRequest_row 0x36 a).trans rfl
theorem fdWdX (a : RegAccess) : Statement (.fdWdX a) := fun _ => (regRequest_row 0x37 a).trans rfl
theorem fdRdY (a : RegAccess) : Statement (.fdRdY a) := fun _ => (regRequest_row 0x38 a).trans rfl
theorem fdGdY (a : RegAccess) : Statement (.fdGdY a) := fun _ => (regRequest_row 0x39 a).trans rfl
theorem fdBdY (a : RegAccess) : Statement (.fdBdY a) := fun _ => (regRequest_row 0x3A a).trans rfl
theorem fdZdY (a : RegAccess) : Statement (.fdZdY a) := fun _ => (regRequest_row 0x3B a).trans rfl
theorem fdAdY (a : RegAccess) : Statement (.fdAdY a) := fun _ => (regRequest_row 0x3C a).trans rfl
theorem fdSdY (a : RegAccess) : Statement (.fdSdY a) := fun _ => (regRequest_row 0x3D a).trans rfl
theorem fdTdY (a : RegAccess) : Statement (.fdTdY a) := fun _ => (regRequest_row 0x3E a).trans rfl
theorem fdWdY (a : RegAccess) : Statement (.fdWdY a) := fun _ => (regRequest_row 0x3F a).trans rfl
theorem ftriangleCMD (a : RegAccess) : Statement (.ftriangleCMD a) := fun _ => (regRequest_row 0x40 a).trans rfl
theorem fbzColorPath (a : RegAccess) : Statement (.fbzColorPath a) := fun _ => (regRequest_row 0x41 a).trans rfl
theorem fogMode (a : RegAccess) : Statement (.fogMode a) := fun _ => (regRequest_row 0x42 a).trans rfl
theorem alphaMode (a : RegAccess) : Statement (.alphaMode a) := fun _ => (regRequest_row 0x43 a).trans rfl
theorem fbzMode (a : RegAccess) : Statement (.fbzMode a) := fun _ => (regRequest_row 0x44 a).trans rfl
theorem lfbMode (a : RegAccess) : Statement (.lfbMode a) := fun _ => (regRequest_row 0x45 a).trans rfl
theorem clipLeftRight (a : RegAccess) : Statement (.clipLeftRight a) := fun _ => (regRequest_row 0x46 a).trans rfl
theorem clipLowYHighY (a : RegAccess) : Statement (.clipLowYHighY a) := fun _ => (regRequest_row 0x47 a).trans rfl
theorem nopCMD (a : RegAccess) : Statement (.nopCMD a) := fun _ => (regRequest_row 0x48 a).trans rfl
theorem fastfillCMD (a : RegAccess) : Statement (.fastfillCMD a) := fun _ => (regRequest_row 0x49 a).trans rfl
theorem swapbufferCMD (a : RegAccess) : Statement (.swapbufferCMD a) := fun _ => (regRequest_row 0x4A a).trans rfl
theorem fogColor (a : RegAccess) : Statement (.fogColor a) := fun _ => (regRequest_row 0x4B a).trans rfl
theorem zaColor (a : RegAccess) : Statement (.zaColor a) := fun _ => (regRequest_row 0x4C a).trans rfl
theorem chromaKey (a : RegAccess) : Statement (.chromaKey a) := fun _ => (regRequest_row 0x4D a).trans rfl
theorem chromaRange (a : RegAccess) : Statement (.chromaRange a) := fun _ => (regRequest_row 0x4E a).trans rfl
theorem userIntrCMD (a : RegAccess) : Statement (.userIntrCMD a) := fun _ => (regRequest_row 0x4F a).trans rfl
theorem stipple (a : RegAccess) : Statement (.stipple a) := fun _ => (regRequest_row 0x50 a).trans rfl
theorem color0 (a : RegAccess) : Statement (.color0 a) := fun _ => (regRequest_row 0x51 a).trans rfl
theorem color1 (a : RegAccess) : Statement (.color1 a) := fun _ => (regRequest_row 0x52 a).trans rfl
theorem fbiPixelsIn (a : RegAccess) : Statement (.fbiPixelsIn a) := fun _ => (regRequest_row 0x53 a).trans rfl
theorem fbiChromaFail (a : RegAccess) : Statement (.fbiChromaFail a) := fun _ => (regRequest_row 0x54 a).trans rfl
theorem fbiZfuncFail (a : RegAccess) : Statement (.fbiZfuncFail a) := fun _ => (regRequest_row 0x55 a).trans rfl
theorem fbiAfuncFail (a : RegAccess) : Statement (.fbiAfuncFail a) := fun _ => (regRequest_row 0x56 a).trans rfl
theorem fbiPixelsOut (a : RegAccess) : Statement (.fbiPixelsOut a) := fun _ => (regRequest_row 0x57 a).trans rfl
theorem fogTable0 (a : RegAccess) : Statement (.fogTable0 a) := fun _ => (regRequest_row 0x58 a).trans rfl
theorem fogTable1 (a : RegAccess) : Statement (.fogTable1 a) := fun _ => (regRequest_row 0x59 a).trans rfl
theorem fogTable2 (a : RegAccess) : Statement (.fogTable2 a) := fun _ => (regRequest_row 0x5A a).trans rfl
theorem fogTable3 (a : RegAccess) : Statement (.fogTable3 a) := fun _ => (regRequest_row 0x5B a).trans rfl
theorem fogTable4 (a : RegAccess) : Statement (.fogTable4 a) := fun _ => (regRequest_row 0x5C a).trans rfl
theorem fogTable5 (a : RegAccess) : Statement (.fogTable5 a) := fun _ => (regRequest_row 0x5D a).trans rfl
theorem fogTable6 (a : RegAccess) : Statement (.fogTable6 a) := fun _ => (regRequest_row 0x5E a).trans rfl
theorem fogTable7 (a : RegAccess) : Statement (.fogTable7 a) := fun _ => (regRequest_row 0x5F a).trans rfl
theorem fogTable8 (a : RegAccess) : Statement (.fogTable8 a) := fun _ => (regRequest_row 0x60 a).trans rfl
theorem fogTable9 (a : RegAccess) : Statement (.fogTable9 a) := fun _ => (regRequest_row 0x61 a).trans rfl
theorem fogTable10 (a : RegAccess) : Statement (.fogTable10 a) := fun _ => (regRequest_row 0x62 a).trans rfl
theorem fogTable11 (a : RegAccess) : Statement (.fogTable11 a) := fun _ => (regRequest_row 0x63 a).trans rfl
theorem fogTable12 (a : RegAccess) : Statement (.fogTable12 a) := fun _ => (regRequest_row 0x64 a).trans rfl
theorem fogTable13 (a : RegAccess) : Statement (.fogTable13 a) := fun _ => (regRequest_row 0x65 a).trans rfl
theorem fogTable14 (a : RegAccess) : Statement (.fogTable14 a) := fun _ => (regRequest_row 0x66 a).trans rfl
theorem fogTable15 (a : RegAccess) : Statement (.fogTable15 a) := fun _ => (regRequest_row 0x67 a).trans rfl
theorem fogTable16 (a : RegAccess) : Statement (.fogTable16 a) := fun _ => (regRequest_row 0x68 a).trans rfl
theorem fogTable17 (a : RegAccess) : Statement (.fogTable17 a) := fun _ => (regRequest_row 0x69 a).trans rfl
theorem fogTable18 (a : RegAccess) : Statement (.fogTable18 a) := fun _ => (regRequest_row 0x6A a).trans rfl
theorem fogTable19 (a : RegAccess) : Statement (.fogTable19 a) := fun _ => (regRequest_row 0x6B a).trans rfl
theorem fogTable20 (a : RegAccess) : Statement (.fogTable20 a) := fun _ => (regRequest_row 0x6C a).trans rfl
theorem fogTable21 (a : RegAccess) : Statement (.fogTable21 a) := fun _ => (regRequest_row 0x6D a).trans rfl
theorem fogTable22 (a : RegAccess) : Statement (.fogTable22 a) := fun _ => (regRequest_row 0x6E a).trans rfl
theorem fogTable23 (a : RegAccess) : Statement (.fogTable23 a) := fun _ => (regRequest_row 0x6F a).trans rfl
theorem fogTable24 (a : RegAccess) : Statement (.fogTable24 a) := fun _ => (regRequest_row 0x70 a).trans rfl
theorem fogTable25 (a : RegAccess) : Statement (.fogTable25 a) := fun _ => (regRequest_row 0x71 a).trans rfl
theorem fogTable26 (a : RegAccess) : Statement (.fogTable26 a) := fun _ => (regRequest_row 0x72 a).trans rfl
theorem fogTable27 (a : RegAccess) : Statement (.fogTable27 a) := fun _ => (regRequest_row 0x73 a).trans rfl
theorem fogTable28 (a : RegAccess) : Statement (.fogTable28 a) := fun _ => (regRequest_row 0x74 a).trans rfl
theorem fogTable29 (a : RegAccess) : Statement (.fogTable29 a) := fun _ => (regRequest_row 0x75 a).trans rfl
theorem fogTable30 (a : RegAccess) : Statement (.fogTable30 a) := fun _ => (regRequest_row 0x76 a).trans rfl
theorem fogTable31 (a : RegAccess) : Statement (.fogTable31 a) := fun _ => (regRequest_row 0x77 a).trans rfl
theorem cmdFifoBaseAddr (a : RegAccess) : Statement (.cmdFifoBaseAddr a) := fun _ => (regRequest_row 0x78 a).trans rfl
theorem cmdFifoBump (a : RegAccess) : Statement (.cmdFifoBump a) := fun _ => (regRequest_row 0x79 a).trans rfl
theorem cmdFifoRdPtr (a : RegAccess) : Statement (.cmdFifoRdPtr a) := fun _ => (regRequest_row 0x7A a).trans rfl
theorem cmdFifoAMin (a : RegAccess) : Statement (.cmdFifoAMin a) := fun _ => (regRequest_row 0x7B a).trans rfl
theorem cmdFifoAMax (a : RegAccess) : Statement (.cmdFifoAMax a) := fun _ => (regRequest_row 0x7C a).trans rfl
theorem cmdFifoDepth (a : RegAccess) : Statement (.cmdFifoDepth a) := fun _ => (regRequest_row 0x7D a).trans rfl
theorem cmdFifoHoles (a : RegAccess) : Statement (.cmdFifoHoles a) := fun _ => (regRequest_row 0x7E a).trans rfl
theorem fbiInit4 (a : RegAccess) : Statement (.fbiInit4 a) := fun _ => (regRequest_row 0x80 a).trans rfl
theorem vRetrace (a : RegAccess) : Statement (.vRetrace a) := fun _ => (regRequest_row 0x81 a).trans rfl
theorem backPorch (a : RegAccess) : Statement (.backPorch a) := fun _ => (regRequest_row 0x82 a).trans rfl
theorem videoDimensions (a : RegAccess) : Statement (.videoDimensions a) := fun _ => (regRequest_row 0x83 a).trans rfl
theorem fbiInit0 (a : RegAccess) : Statement (.fbiInit0 a) := fun _ => (regRequest_row 0x84 a).trans rfl
theorem fbiInit1 (a : RegAccess) : Statement (.fbiInit1 a) := fun _ => (regRequest_row 0x85 a).trans rfl
theorem fbiInit2 (a : RegAccess) : Statement (.fbiInit2 a) := fun _ => (regRequest_row 0x86 a).trans rfl
theorem fbiInit3 (a : RegAccess) : Statement (.fbiInit3 a) := fun _ => (regRequest_row 0x87 a).trans rfl
theorem hSync (a : RegAccess) : Statement (.hSync a) := fun _ => (regRequest_row 0x88 a).trans rfl
theorem vSync (a : RegAccess) : Statement (.vSync a) := fun _ => (regRequest_row 0x89 a).trans rfl
theorem clutData (a : RegAccess) : Statement (.clutData a) := fun _ => (regRequest_row 0x8A a).trans rfl
theorem dacData (a : RegAccess) : Statement (.dacData a) := fun _ => (regRequest_row 0x8B a).trans rfl
theorem maxRgbDelta (a : RegAccess) : Statement (.maxRgbDelta a) := fun _ => (regRequest_row 0x8C a).trans rfl
theorem hBorder (a : RegAccess) : Statement (.hBorder a) := fun _ => (regRequest_row 0x8D a).trans rfl
theorem vBorder (a : RegAccess) : Statement (.vBorder a) := fun _ => (regRequest_row 0x8E a).trans rfl
theorem borderColor (a : RegAccess) : Statement (.borderColor a) := fun _ => (regRequest_row 0x8F a).trans rfl
theorem hvRetrace (a : RegAccess) : Statement (.hvRetrace a) := fun _ => (regRequest_row 0x90 a).trans rfl
theorem fbiInit5 (a : RegAccess) : Statement (.fbiInit5 a) := fun _ => (regRequest_row 0x91 a).trans rfl
theorem fbiInit6 (a : RegAccess) : Statement (.fbiInit6 a) := fun _ => (regRequest_row 0x92 a).trans rfl
theorem fbiInit7 (a : RegAccess) : Statement (.fbiInit7 a) := fun _ => (regRequest_row 0x93 a).trans rfl
theorem fbiSwapHistory (a : RegAccess) : Statement (.fbiSwapHistory a) := fun _ => (regRequest_row 0x96 a).trans rfl
theorem fbiTrianglesOut (a : RegAccess) : Statement (.fbiTrianglesOut a) := fun _ => (regRequest_row 0x97 a).trans rfl
theorem sSetupMode (a : RegAccess) : Statement (.sSetupMode a) := fun _ => (regRequest_row 0x98 a).trans rfl
theorem sVx (a : RegAccess) : Statement (.sVx a) := fun _ => (regRequest_row 0x99 a).trans rfl
theorem sVy (a : RegAccess) : Statement (.sVy a) := fun _ => (regRequest_row 0x9A a).trans rfl
theorem sARGB (a : RegAccess) : Statement (.sARGB a) := fun _ => (regRequest_row 0x9B a).trans rfl
theorem sRed (a : RegAccess) : Statement (.sRed a) := fun _ => (regRequest_row 0x9C a).trans rfl
theorem sGreen (a : RegAccess) : Statement (.sGreen a) := fun _ => (regRequest_row 0x9D a).trans rfl
theorem sBlue (a : RegAccess) : Statement (.sBlue a) := fun _ => (regRequest_row 0x9E a).trans rfl
theorem sAlpha (a : RegAccess) : Statement (.sAlpha a) := fun _ => (regRequest_row 0x9F a).trans rfl
theorem sVz (a : RegAccess) : Statement (.sVz a) := fun _ => (regRequest_row 0xA0 a).trans rfl
theorem sWb (a : RegAccess) : Statement (.sWb a) := fun _ => (regRequest_row 0xA1 a).trans rfl
theorem sWtmu0 (a : RegAccess) : Statement (.sWtmu0 a) := fun _ => (regRequest_row 0xA2 a).trans rfl
theorem sS_W0 (a : RegAccess) : Statement (.sS_W0 a) := fun _ => (regRequest_row 0xA3 a).trans rfl
theorem sT_W0 (a : RegAccess) : Statement (.sT_W0 a) := fun _ => (regRequest_row 0xA4 a).trans rfl
theorem sWtmu1 (a : RegAccess) : Statement (.sWtmu1 a) := fun _ => (regRequest_row 0xA5 a).trans rfl
theorem sS_Wtmu1 (a : RegAccess) : Statement (.sS_Wtmu1 a) := fun _ => (regRequest_row 0xA6 a).trans rfl
theorem sT_Wtmu1 (a : RegAccess) : Statement (.sT_Wtmu1 a) := fun _ => (regRequest_row 0xA7 a).trans rfl
theorem sDrawTriCMD (a : RegAccess) : Statement (.sDrawTriCMD a) := fun _ => (regRequest_row 0xA8 a).trans rfl
theorem sBeginTriCMD (a : RegAccess) : Statement (.sBeginTriCMD a) := fun _ => (regRequest_row 0xA9 a).trans rfl
theorem blt (n : RegNum) (a : RegAccess) : Statement (.blt n a) := fun h => by
  have hn : n.extractLsb' 4 4 = 0xB#4 := by simpa [Instr.wellFormed] using h
  have h3 : (0xC003C0#24) = 0xC003FC#24 &&& 0xC003C0#24 := by decide
  show (regRequest n a).addr &&& 0xC003C0#24 = 0x0002C0#24
  rw [h3, ← BitVec.and_assoc, regRequest_row]
  clear h h3
  revert n
  decide
theorem textureMode (a : RegAccess) : Statement (.textureMode a) := fun _ => (regRequest_row 0xC0 a).trans rfl
theorem tLOD (a : RegAccess) : Statement (.tLOD a) := fun _ => (regRequest_row 0xC1 a).trans rfl
theorem tDetail (a : RegAccess) : Statement (.tDetail a) := fun _ => (regRequest_row 0xC2 a).trans rfl
theorem texBaseAddr (a : RegAccess) : Statement (.texBaseAddr a) := fun _ => (regRequest_row 0xC3 a).trans rfl
theorem texBaseAddr_1 (a : RegAccess) : Statement (.texBaseAddr_1 a) := fun _ => (regRequest_row 0xC4 a).trans rfl
theorem texBaseAddr_2 (a : RegAccess) : Statement (.texBaseAddr_2 a) := fun _ => (regRequest_row 0xC5 a).trans rfl
theorem texBaseAddr_3_8 (a : RegAccess) : Statement (.texBaseAddr_3_8 a) := fun _ => (regRequest_row 0xC6 a).trans rfl
theorem trexInit0 (a : RegAccess) : Statement (.trexInit0 a) := fun _ => (regRequest_row 0xC7 a).trans rfl
theorem trexInit1 (a : RegAccess) : Statement (.trexInit1 a) := fun _ => (regRequest_row 0xC8 a).trans rfl
theorem nccTable0_0 (a : RegAccess) : Statement (.nccTable0_0 a) := fun _ => (regRequest_row 0xC9 a).trans rfl
theorem nccTable0_1 (a : RegAccess) : Statement (.nccTable0_1 a) := fun _ => (regRequest_row 0xCA a).trans rfl
theorem nccTable0_2 (a : RegAccess) : Statement (.nccTable0_2 a) := fun _ => (regRequest_row 0xCB a).trans rfl
theorem nccTable0_3 (a : RegAccess) : Statement (.nccTable0_3 a) := fun _ => (regRequest_row 0xCC a).trans rfl
theorem nccTable0_4 (a : RegAccess) : Statement (.nccTable0_4 a) := fun _ => (regRequest_row 0xCD a).trans rfl
theorem nccTable0_5 (a : RegAccess) : Statement (.nccTable0_5 a) := fun _ => (regRequest_row 0xCE a).trans rfl
theorem nccTable0_6 (a : RegAccess) : Statement (.nccTable0_6 a) := fun _ => (regRequest_row 0xCF a).trans rfl
theorem nccTable0_7 (a : RegAccess) : Statement (.nccTable0_7 a) := fun _ => (regRequest_row 0xD0 a).trans rfl
theorem nccTable0_8 (a : RegAccess) : Statement (.nccTable0_8 a) := fun _ => (regRequest_row 0xD1 a).trans rfl
theorem nccTable0_9 (a : RegAccess) : Statement (.nccTable0_9 a) := fun _ => (regRequest_row 0xD2 a).trans rfl
theorem nccTable0_10 (a : RegAccess) : Statement (.nccTable0_10 a) := fun _ => (regRequest_row 0xD3 a).trans rfl
theorem nccTable0_11 (a : RegAccess) : Statement (.nccTable0_11 a) := fun _ => (regRequest_row 0xD4 a).trans rfl
theorem nccTable1_0 (a : RegAccess) : Statement (.nccTable1_0 a) := fun _ => (regRequest_row 0xD5 a).trans rfl
theorem nccTable1_1 (a : RegAccess) : Statement (.nccTable1_1 a) := fun _ => (regRequest_row 0xD6 a).trans rfl
theorem nccTable1_2 (a : RegAccess) : Statement (.nccTable1_2 a) := fun _ => (regRequest_row 0xD7 a).trans rfl
theorem nccTable1_3 (a : RegAccess) : Statement (.nccTable1_3 a) := fun _ => (regRequest_row 0xD8 a).trans rfl
theorem nccTable1_4 (a : RegAccess) : Statement (.nccTable1_4 a) := fun _ => (regRequest_row 0xD9 a).trans rfl
theorem nccTable1_5 (a : RegAccess) : Statement (.nccTable1_5 a) := fun _ => (regRequest_row 0xDA a).trans rfl
theorem nccTable1_6 (a : RegAccess) : Statement (.nccTable1_6 a) := fun _ => (regRequest_row 0xDB a).trans rfl
theorem nccTable1_7 (a : RegAccess) : Statement (.nccTable1_7 a) := fun _ => (regRequest_row 0xDC a).trans rfl
theorem nccTable1_8 (a : RegAccess) : Statement (.nccTable1_8 a) := fun _ => (regRequest_row 0xDD a).trans rfl
theorem nccTable1_9 (a : RegAccess) : Statement (.nccTable1_9 a) := fun _ => (regRequest_row 0xDE a).trans rfl
theorem nccTable1_10 (a : RegAccess) : Statement (.nccTable1_10 a) := fun _ => (regRequest_row 0xDF a).trans rfl
theorem nccTable1_11 (a : RegAccess) : Statement (.nccTable1_11 a) := fun _ => (regRequest_row 0xE0 a).trans rfl
/-- The two top bits of an LFB address. -/
theorem lfbAddr_row (l : BitVec 20) : lfbAddr l &&& 0xC00000#24 = 0x400000#24 := by
  simp only [lfbAddr]; ext i hi
  simp only [BitVec.getElem_and, BitVec.getElem_append]
  interval_cases i <;> simp

/-- The top bit of a texture address. -/
theorem texAddr_row (unit : BitVec 2) (lod : BitVec 4) (row : BitVec 8) (sword : BitVec 7) :
    texAddr unit lod row sword &&& 0x800000#24 = 0x800000#24 := by
  simp only [texAddr]; ext i hi
  simp only [BitVec.getElem_and, BitVec.getElem_append]
  interval_cases i <;> simp

theorem lfbWr (l : BitVec 20) (data : Word) : Statement (.lfbWr l data) := fun _ => lfbAddr_row l
theorem lfbRd (l : BitVec 20) : Statement (.lfbRd l) := fun _ => lfbAddr_row l
theorem texWr (unit : BitVec 2) (lod : BitVec 4) (row : BitVec 8) (sword : BitVec 7) (data : Word) : Statement (.texWr unit lod row sword data) := fun _ => texAddr_row unit lod row sword
theorem texRd (unit : BitVec 2) (lod : BitVec 4) (row : BitVec 8) (sword : BitVec 7) : Statement (.texRd unit lod row sword) := fun _ => texAddr_row unit lod row sword

end Sys2Proof.Laws.TableRow
end

