-- ==== Sys2Proof/Tests/Slice0.lean ====
section
/-! SUPPORT. Tests: ill-formed terms refused, words of the encoding decoded, one step of the spec's test vectors
(95_test_vectors.md, named V10 to V258), and a witness for the hypotheses of every obligation that has some. -/

namespace Sys2Proof.Tests

open Sys2Proof Sys2Proof.Machine

/-! ### Helpers -/

def nextOf (o : Out) : Option State :=
  match o with
  | .next t => some t
  | _ => none

def refusalOf (o : Out) : Option Refusal :=
  match o with
  | .refused r => some r
  | _ => none

def faultOf (o : Out) : Option Fault :=
  match o with
  | .fault f => some f
  | _ => none

/-- The state that a fault leaves. -/
def leftOf (o : Out) : Option State :=
  match o with
  | .fault (.cacheFull left) => some left
  | _ => none

/-- What a request decodes to. -/
def decoded (remap : Bool) (k : BusKind) (a : BitVec 24) (d : Word) : Option Instr :=
  (decode remap ⟨k, .full, a, d⟩).toOption

/-- The parameters of "Boot V1". -/
def v1 : Params := { Params.standard with gen := .v1, chipmask := 1, fbBits := 21 }

/-- The parameters of "Boot V2". -/
def v2 : Params := { v1 with gen := .v2 }

/-- The state after "Boot V1" or "Boot V2", with registers below 0x85 in `low`, those above 0x86 in `high`. -/
def boot (p : Params) (low : Table Word := []) (high : Table Word := []) : State :=
  { State.resetWith p with
    regs := low ++ [(0x85, 0xA0), (0x86, 0x4B000)] ++ high
    surf := ⟨some 0, some 0x96000, none, some 0x12C000, 640, 0⟩ }

/-- The iterators of the red triangle. -/
def redFbi : FbiIter := { FbiIter.reset with vbx := 0x40, vcy := 0x40, r := ⟨0xFF000, 0, 0⟩ }

/-- The red triangle, ready to draw. -/
def red (low : Table Word) : State := { boot v1 low with fbi := redFbi }

/-- A field of the next state of a transaction. -/
def after {α : Type} (i : Instr) (s : State) (f : State → α) : Option α := (nextOf (exec i s)).map f

/-! ### WellFormed refuses ill-formed terms -/

theorem test_wf_blitter_number : Instr.wellFormed (.blt 0x10 .read) = false := by decide
theorem test_wf_chipmask : Params.chipmaskLegal { Params.standard with chipmask := 2 } = false := by decide
theorem test_wf_fb_small : Params.fbLargeEnough { Params.standard with fbBits := 19 } = false := by decide
theorem test_wf_tex_small_0 : Params.texLargeEnough { Params.standard with texBits0 := 19 } = false := by decide
theorem test_wf_tex_small_1 : Params.texLargeEnough { Params.standard with texBits1 := 19 } = false := by decide
theorem test_wf_cache_reserved : Params.reservedLegal { Params.standard with cacheReserved := 1024 } = false := by decide
theorem test_wf_params : Params.wellFormed { Params.standard with chipmask := 2 } = false := by decide

/-! ### Decoding: every register row at `4 * n` (30_encoding.md R131; 10_state.md R30), chipsel 0 -/

def tableRows1 : List (BitVec 24 × Instr) :=
  [(0x000000, .status (.write 0 5)), (0x000004, .intrCtrl (.write 0 5)), (0x000008, .vertexAx (.write 0 5)),
   (0x00000C, .vertexAy (.write 0 5)), (0x000010, .vertexBx (.write 0 5)), (0x000014, .vertexBy (.write 0 5)),
   (0x000018, .vertexCx (.write 0 5)), (0x00001C, .vertexCy (.write 0 5)), (0x000020, .startR (.write 0 5)),
   (0x000024, .startG (.write 0 5)), (0x000028, .startB (.write 0 5)), (0x00002C, .startZ (.write 0 5)),
   (0x000030, .startA (.write 0 5)), (0x000034, .startS (.write 0 5)), (0x000038, .startT (.write 0 5)),
   (0x00003C, .startW (.write 0 5)), (0x000040, .dRdX (.write 0 5)), (0x000044, .dGdX (.write 0 5)),
   (0x000048, .dBdX (.write 0 5)), (0x00004C, .dZdX (.write 0 5)), (0x000050, .dAdX (.write 0 5)),
   (0x000054, .dSdX (.write 0 5)), (0x000058, .dTdX (.write 0 5)), (0x00005C, .dWdX (.write 0 5)),
   (0x000060, .dRdY (.write 0 5)), (0x000064, .dGdY (.write 0 5)), (0x000068, .dBdY (.write 0 5)),
   (0x00006C, .dZdY (.write 0 5)), (0x000070, .dAdY (.write 0 5)), (0x000074, .dSdY (.write 0 5)),
   (0x000078, .dTdY (.write 0 5)), (0x00007C, .dWdY (.write 0 5)), (0x000080, .triangleCMD (.write 0 5)),
   (0x000088, .fvertexAx (.write 0 5))]

theorem test_decode_rows_1 : ∀ r ∈ tableRows1, decoded false .wr r.1 5 = some r.2 := by decide

def tableRows2 : List (BitVec 24 × Instr) :=
  [(0x00008C, .fvertexAy (.write 0 5)), (0x000090, .fvertexBx (.write 0 5)), (0x000094, .fvertexBy (.write 0 5)),
   (0x000098, .fvertexCx (.write 0 5)), (0x00009C, .fvertexCy (.write 0 5)), (0x0000A0, .fstartR (.write 0 5)),
   (0x0000A4, .fstartG (.write 0 5)), (0x0000A8, .fstartB (.write 0 5)), (0x0000AC, .fstartZ (.write 0 5)),
   (0x0000B0, .fstartA (.write 0 5)), (0x0000B4, .fstartS (.write 0 5)), (0x0000B8, .fstartT (.write 0 5)),
   (0x0000BC, .fstartW (.write 0 5)), (0x0000C0, .fdRdX (.write 0 5)), (0x0000C4, .fdGdX (.write 0 5)),
   (0x0000C8, .fdBdX (.write 0 5)), (0x0000CC, .fdZdX (.write 0 5)), (0x0000D0, .fdAdX (.write 0 5)),
   (0x0000D4, .fdSdX (.write 0 5)), (0x0000D8, .fdTdX (.write 0 5)), (0x0000DC, .fdWdX (.write 0 5)),
   (0x0000E0, .fdRdY (.write 0 5)), (0x0000E4, .fdGdY (.write 0 5)), (0x0000E8, .fdBdY (.write 0 5)),
   (0x0000EC, .fdZdY (.write 0 5)), (0x0000F0, .fdAdY (.write 0 5)), (0x0000F4, .fdSdY (.write 0 5)),
   (0x0000F8, .fdTdY (.write 0 5)), (0x0000FC, .fdWdY (.write 0 5)), (0x000100, .ftriangleCMD (.write 0 5)),
   (0x000104, .fbzColorPath (.write 0 5)), (0x000108, .fogMode (.write 0 5)), (0x00010C, .alphaMode (.write 0 5)),
   (0x000110, .fbzMode (.write 0 5))]

theorem test_decode_rows_2 : ∀ r ∈ tableRows2, decoded false .wr r.1 5 = some r.2 := by decide

def tableRows3 : List (BitVec 24 × Instr) :=
  [(0x000114, .lfbMode (.write 0 5)), (0x000118, .clipLeftRight (.write 0 5)),
   (0x00011C, .clipLowYHighY (.write 0 5)), (0x000120, .nopCMD (.write 0 5)), (0x000124, .fastfillCMD (.write 0 5)),
   (0x000128, .swapbufferCMD (.write 0 5)), (0x00012C, .fogColor (.write 0 5)), (0x000130, .zaColor (.write 0 5)),
   (0x000134, .chromaKey (.write 0 5)), (0x000138, .chromaRange (.write 0 5)), (0x00013C, .userIntrCMD (.write 0 5)),
   (0x000140, .stipple (.write 0 5)), (0x000144, .color0 (.write 0 5)), (0x000148, .color1 (.write 0 5)),
   (0x00014C, .fbiPixelsIn (.write 0 5)), (0x000150, .fbiChromaFail (.write 0 5)),
   (0x000154, .fbiZfuncFail (.write 0 5)), (0x000158, .fbiAfuncFail (.write 0 5)),
   (0x00015C, .fbiPixelsOut (.write 0 5)), (0x000160, .fogTable0 (.write 0 5)), (0x000164, .fogTable1 (.write 0 5)),
   (0x000168, .fogTable2 (.write 0 5)), (0x00016C, .fogTable3 (.write 0 5)), (0x000170, .fogTable4 (.write 0 5)),
   (0x000174, .fogTable5 (.write 0 5)), (0x000178, .fogTable6 (.write 0 5)), (0x00017C, .fogTable7 (.write 0 5)),
   (0x000180, .fogTable8 (.write 0 5)), (0x000184, .fogTable9 (.write 0 5)), (0x000188, .fogTable10 (.write 0 5)),
   (0x00018C, .fogTable11 (.write 0 5)), (0x000190, .fogTable12 (.write 0 5)), (0x000194, .fogTable13 (.write 0 5)),
   (0x000198, .fogTable14 (.write 0 5))]

theorem test_decode_rows_3 : ∀ r ∈ tableRows3, decoded false .wr r.1 5 = some r.2 := by decide

def tableRows4 : List (BitVec 24 × Instr) :=
  [(0x00019C, .fogTable15 (.write 0 5)), (0x0001A0, .fogTable16 (.write 0 5)), (0x0001A4, .fogTable17 (.write 0 5)),
   (0x0001A8, .fogTable18 (.write 0 5)), (0x0001AC, .fogTable19 (.write 0 5)), (0x0001B0, .fogTable20 (.write 0 5)),
   (0x0001B4, .fogTable21 (.write 0 5)), (0x0001B8, .fogTable22 (.write 0 5)), (0x0001BC, .fogTable23 (.write 0 5)),
   (0x0001C0, .fogTable24 (.write 0 5)), (0x0001C4, .fogTable25 (.write 0 5)), (0x0001C8, .fogTable26 (.write 0 5)),
   (0x0001CC, .fogTable27 (.write 0 5)), (0x0001D0, .fogTable28 (.write 0 5)), (0x0001D4, .fogTable29 (.write 0 5)),
   (0x0001D8, .fogTable30 (.write 0 5)), (0x0001DC, .fogTable31 (.write 0 5)),
   (0x0001E0, .cmdFifoBaseAddr (.write 0 5)), (0x0001E4, .cmdFifoBump (.write 0 5)),
   (0x0001E8, .cmdFifoRdPtr (.write 0 5)), (0x0001EC, .cmdFifoAMin (.write 0 5)),
   (0x0001F0, .cmdFifoAMax (.write 0 5)), (0x0001F4, .cmdFifoDepth (.write 0 5)),
   (0x0001F8, .cmdFifoHoles (.write 0 5)), (0x000200, .fbiInit4 (.write 0 5)), (0x000204, .vRetrace (.write 0 5)),
   (0x000208, .backPorch (.write 0 5)), (0x00020C, .videoDimensions (.write 0 5)),
   (0x000210, .fbiInit0 (.write 0 5)), (0x000214, .fbiInit1 (.write 0 5)), (0x000218, .fbiInit2 (.write 0 5)),
   (0x00021C, .fbiInit3 (.write 0 5)), (0x000220, .hSync (.write 0 5)), (0x000224, .vSync (.write 0 5))]

theorem test_decode_rows_4 : ∀ r ∈ tableRows4, decoded false .wr r.1 5 = some r.2 := by decide

def tableRows5 : List (BitVec 24 × Instr) :=
  [(0x000228, .clutData (.write 0 5)), (0x00022C, .dacData (.write 0 5)), (0x000230, .maxRgbDelta (.write 0 5)),
   (0x000234, .hBorder (.write 0 5)), (0x000238, .vBorder (.write 0 5)), (0x00023C, .borderColor (.write 0 5)),
   (0x000240, .hvRetrace (.write 0 5)), (0x000244, .fbiInit5 (.write 0 5)), (0x000248, .fbiInit6 (.write 0 5)),
   (0x00024C, .fbiInit7 (.write 0 5)), (0x000258, .fbiSwapHistory (.write 0 5)),
   (0x00025C, .fbiTrianglesOut (.write 0 5)), (0x000260, .sSetupMode (.write 0 5)), (0x000264, .sVx (.write 0 5)),
   (0x000268, .sVy (.write 0 5)), (0x00026C, .sARGB (.write 0 5)), (0x000270, .sRed (.write 0 5)),
   (0x000274, .sGreen (.write 0 5)), (0x000278, .sBlue (.write 0 5)), (0x00027C, .sAlpha (.write 0 5)),
   (0x000280, .sVz (.write 0 5)), (0x000284, .sWb (.write 0 5)), (0x000288, .sWtmu0 (.write 0 5)),
   (0x00028C, .sS_W0 (.write 0 5)), (0x000290, .sT_W0 (.write 0 5)), (0x000294, .sWtmu1 (.write 0 5)),
   (0x000298, .sS_Wtmu1 (.write 0 5)), (0x00029C, .sT_Wtmu1 (.write 0 5)), (0x0002A0, .sDrawTriCMD (.write 0 5)),
   (0x0002A4, .sBeginTriCMD (.write 0 5)), (0x000300, .textureMode (.write 0 5)), (0x000304, .tLOD (.write 0 5)),
   (0x000308, .tDetail (.write 0 5)), (0x00030C, .texBaseAddr (.write 0 5))]

theorem test_decode_rows_5 : ∀ r ∈ tableRows5, decoded false .wr r.1 5 = some r.2 := by decide

def tableRows6 : List (BitVec 24 × Instr) :=
  [(0x000310, .texBaseAddr_1 (.write 0 5)), (0x000314, .texBaseAddr_2 (.write 0 5)),
   (0x000318, .texBaseAddr_3_8 (.write 0 5)), (0x00031C, .trexInit0 (.write 0 5)),
   (0x000320, .trexInit1 (.write 0 5)), (0x000324, .nccTable0_0 (.write 0 5)), (0x000328, .nccTable0_1 (.write 0 5)),
   (0x00032C, .nccTable0_2 (.write 0 5)), (0x000330, .nccTable0_3 (.write 0 5)),
   (0x000334, .nccTable0_4 (.write 0 5)), (0x000338, .nccTable0_5 (.write 0 5)),
   (0x00033C, .nccTable0_6 (.write 0 5)), (0x000340, .nccTable0_7 (.write 0 5)),
   (0x000344, .nccTable0_8 (.write 0 5)), (0x000348, .nccTable0_9 (.write 0 5)),
   (0x00034C, .nccTable0_10 (.write 0 5)), (0x000350, .nccTable0_11 (.write 0 5)),
   (0x000354, .nccTable1_0 (.write 0 5)), (0x000358, .nccTable1_1 (.write 0 5)),
   (0x00035C, .nccTable1_2 (.write 0 5)), (0x000360, .nccTable1_3 (.write 0 5)),
   (0x000364, .nccTable1_4 (.write 0 5)), (0x000368, .nccTable1_5 (.write 0 5)),
   (0x00036C, .nccTable1_6 (.write 0 5)), (0x000370, .nccTable1_7 (.write 0 5)),
   (0x000374, .nccTable1_8 (.write 0 5)), (0x000378, .nccTable1_9 (.write 0 5)),
   (0x00037C, .nccTable1_10 (.write 0 5)), (0x000380, .nccTable1_11 (.write 0 5))]

theorem test_decode_rows_6 : ∀ r ∈ tableRows6, decoded false .wr r.1 5 = some r.2 := by decide

/-- The blitter block, first and last (10_state.md R30), with a chip select. -/
theorem test_decode_blitter : decoded false .wr 0x0002C0 5 = some (.blt 0xB0 (.write 0 5)) ∧
    decoded false .wr 0x000EFC 5 = some (.blt 0xBF (.write 3 5)) := by decide

/-- V10, V13, V14: 0x44 is fbzMode; A[1:0] and A[20:14] are ignored. -/
theorem test_decode_ignored : decoded false .wr 0x000110 7 = some (.fbzMode (.write 0 7)) ∧
    decoded false .wr 0x000113 7 = some (.fbzMode (.write 0 7)) ∧
    decoded false .rd 0x1FC110 7 = some (.fbzMode .read) := by decide

/-- V11, V12: the chip-select field is A[13:10]. -/
theorem test_decode_chipsel : decoded false .wr 0x000B00 1 = some (.textureMode (.write 2 1)) ∧
    decoded false .wr 0x000D10 1 = some (.fbzMode (.write 3 1)) := by decide

/-- V15, V194: an LFB word offset is A[21:2]. -/
theorem test_decode_lfb : decoded false .wr 0x40100C 9 = some (.lfbWr 0x403 9) ∧
    decoded false .rd 0x7FFFFC 0 = some (.lfbRd 0xFFFFF) := by decide

/-- V16, V17, V227, V228: texture unit A[22:21], LOD A[20:17], T A[16:9], S word A[8:2]. -/
theorem test_decode_tex : decoded false .wr 0x800208 9 = some (.texWr 0 0 1 2 9) ∧
    decoded false .wr 0xC00000 9 = some (.texWr 2 0 0 0 9) ∧ decoded false .wr 0x920000 9 = some (.texWr 0 9 0 0 9) ∧
    decoded false .rd 0x800000 0 = some (.texRd 0 0 0 0) := by decide

/-- V33 to V35: the alternate map. -/
theorem test_decode_remap : decoded true .wr 0x200024 0x1000 = some (.dRdX (.write 0 0x1000)) ∧
    decoded true .wr 0x000024 0x1000 = some (.startG (.write 0 0x1000)) ∧
    decoded true .wr 0x200104 5 = some (.fbzColorPath (.write 0 5)) := by decide

/-- V47, V231: a reserved number has no instruction, nor has a narrow request. -/
theorem test_decode_rejects : decoded false .rd 0x000084 0 = none ∧
    (decode false ⟨.wr, .narrow, 0x000110, 7⟩).toOption = none := by decide

/-- The table's words of the read rows of the shared windows give the write form (log entry 24). -/
theorem test_table_word : decodeTableWord 24 0x000110 = some (.fbzMode (.write 0 0)) ∧
    decodeTableWord 24 0x400000 = some (.lfbWr 0 0) := by decide

/-! ### Parameters (V18 to V32, V258) -/

theorem test_vertexBx : after (.vertexBx (.write 0 0x48)) (boot v1) (·.fbi.vbx) = some 0x48 := by decide
theorem test_vertexAx_low_half : after (.vertexAx (.write 0 0x1FFF0)) (boot v1) (·.fbi.vax) = some 0xFFF0 := by decide
theorem test_startR_signed : after (.startR (.write 0 0x00FF0000)) (boot v1) (·.fbi.r.start) = some 0xFFFF0000 := by
  decide
theorem test_startR_high_byte : after (.startR (.write 0 0xFF0FF000)) (boot v1) (·.fbi.r.start) = some 0x000FF000 := by
  decide
theorem test_startZ : after (.startZ (.write 0 0x80000000)) (boot v1) (·.fbi.z.start) = some 0x80000000 := by decide
theorem test_startS : after (.startS (.write 0 0x40000)) (boot { v1 with chipmask := 3 })
    (fun t => (t.tmu0.s.start, t.tmu1.s.start, t.fbi)) = some (0x100000000, 0, FbiIter.reset) := by decide
theorem test_startS_fbi_only : after (.startS (.write 1 0x40000)) (boot { v1 with chipmask := 3 })
    (fun t => (t.tmu0.s.start, t.slot 0x0D)) = some (0, 0x40000) := by decide
theorem test_startW : after (.startW (.write 0 0x40000000)) (boot { v1 with chipmask := 3 })
    (fun t => (t.fbi.w.start, t.tmu0.w.start)) = some (0x100000000, 0x100000000) := by decide
theorem test_fvertexBx : after (.fvertexBx (.write 0 0x40800000)) (boot v1) (·.fbi.vbx) = some 0x40 := by decide
theorem test_f2i32 : f2i32 0x437F0000 12 = 0x0FF000 ∧ f2i32 0xBF800000 12 = 0xFFFFF000 ∧ f2i32 0x3F000000 4 = 8 ∧
    f2i32 0 4 = 0 ∧ f2i32 0x7F800000 12 = 0x7FFFFFFF ∧ f2i32 0x3F800001 4 = 0x10 := by decide
theorem test_sARGB : after (.sARGB (.write 0 0xFFFF0000)) (boot v2)
    (fun t => [t.slot 0x9F, t.slot 0x9C, t.slot 0x9D, t.slot 0x9E]) = some [0x437F0000, 0x437F0000, 0, 0] := by decide

/-! ### Registers (V3, V12, V40 to V63, V224, V225) -/

theorem test_store_two_chips : after (.fbzMode (.write 3 7)) (boot { v1 with chipmask := 3 })
    (fun t => [t.slot 0x44, t.slot 0x144, t.slot 0x244]) = some [7, 7, 0] := by decide
theorem test_write_counter : after (.fbiPixelsIn (.write 0 5)) (boot v1) (fun t => (t.log, t.slot 0x53)) =
    some ([.writeNotAllowed 0x53 5], 0) := by decide
theorem test_write_v2_register_on_v1 : after (.sSetupMode (.write 0 1)) (boot v1) (·.log) =
    some [.writeNotAllowed 0x98 1] := by decide
theorem test_write_reserved : (nextOf (runRequest ⟨.wr, .full, 0x000884, 7⟩ (boot v1))).map (·.log) =
    some [.writeNotAllowed 0x21 7] := by decide
theorem test_chip_disabled : after (.fbiInit2 (.write 2 0)) (boot { v1 with initEnable := false }) (·.log) =
    some [.chipDisabled 0x86] := by decide
theorem test_status_v40 : after (.status .read) { boot v1 with display := ⟨true, 0, 0⟩ } (·.readData) =
    some 0x0FFFF07F := by decide
theorem test_status_v42 : after (.status .read) { boot v1 with swap := ⟨2, 0, 0, 0, false, 0, false⟩ } (·.readData) =
    some 0x0FFFF83F := by decide
theorem test_read_fbzMode : after (.fbzMode .read) (boot v1 [(0x44, 0x610)]) (·.readData) = some 0x610 := by decide
theorem test_read_fogColor_v1 : after (.fogColor .read) (boot v1) (fun t => (t.readData, t.log)) =
    some (0xFFFFFFFF, [.readNotAllowed 0x4B]) := by decide
theorem test_read_fogColor_v2 : after (.fogColor .read) (boot v2 [(0x4B, 0x123456)]) (·.readData) = some 0x123456 := by
  decide
theorem test_read_reserved : (nextOf (runRequest ⟨.rd, .full, 0x000084, 0⟩ (boot v1))).map
    (fun t => (t.readData, t.log)) = some (0xFFFFFFFF, [.readNotAllowed 0x21]) := by decide
theorem test_init_disabled : after (.fbiInit2 (.write 0 0)) (boot { v1 with initEnable := false })
    (fun t => (t.log, t.slot 0x86, t.surf.rgb1)) = some ([.initDisabled 0x86], 0x4B000, some 0x96000) := by decide
/-- V51, V53: three colour buffers, and an aux surface past the memory's end. -/
theorem test_layout : fbLayout .v1 0x200000 0xA0 0x4B010 0 0 = ⟨some 0, some 0x96000, some 0x12C000, none, 640, 0⟩ ∧
    fbLayout .v1 0x100000 0xA0 0x4B000 0 0 = ⟨some 0, some 0x96000, none, none, 640, 0⟩ := by decide
theorem test_layout_resets_buffers : after (.fbiInit2 (.write 0 0))
    { boot v1 with swap := ⟨1, 0, 0, 3, false, 0, false⟩ }
    (fun t => (t.surf.rgb1, t.surf.aux, t.swap.front, t.swap.back)) = some (none, none, 0, 1) := by decide
/-- fbiInit0 is stored only (70_reset_and_hazards.md R432): a buffer index that names a NONE surface stays. -/
theorem test_fbiInit0_stored_only : after (.fbiInit0 (.write 0 7))
    { boot v1 with surf := ⟨some 0, none, none, none, 640, 0⟩, swap := ⟨1, 0, 0, 3, false, 0, false⟩ }
    (fun t => (t.slot 0x84, t.swap.front, t.surf.aux)) = some (7, 1, none) := by decide
theorem test_timing_event : after (.videoDimensions (.write 0 0x01E00280)) (boot v1) (·.hostEvents) =
    some [.timingChanged 0x83 0x01E00280] := by decide
theorem test_tLOD_dirty : after (.tLOD (.write 2 4)) { boot { v1 with chipmask := 3 } with
    tmu0 := { Tmu.reset with dirty := false } } (fun t => (t.tmu0.dirty, t.slot 0x1C1, t.slot 0xC1)) =
      some (true, 4, 0) := by decide
theorem test_palette : after (.nccTable0_5 (.write 2 0x83123456)) (boot { v1 with chipmask := 3 })
    (·.tmu0.palette) = some [(7, 0x123456)] := by decide
/-- V56: a palette write marks the TMU and leaves the dirty flag of the NCC table as it is. -/
theorem test_palette_ncc_clean : after (.nccTable0_4 (.write 2 0x80FF0000)) { boot { v1 with chipmask := 3 } with
    tmu0 := { Tmu.reset with dirty := false, ncc0 := { NccTable.reset with dirty := false } } }
    (fun t => (t.tmu0.palette, t.tmu0.dirty, t.tmu0.ncc0.dirty)) = some ([(0, 0xFF0000)], true, false) := by decide
theorem test_ncc_coefficient : after (.nccTable1_5 (.write 2 0x83123456)) (boot { v1 with chipmask := 3 })
    (fun t => ((t.tmu0.ncc1.iAt 1).r.toInt, (t.tmu0.ncc1.iAt 1).g.toInt, (t.tmu0.ncc1.iAt 1).b.toInt)) =
      some (196, -230, 86) := by decide
theorem test_fogTable : after (.fogTable0 (.write 0 0x20104000)) (boot v1) (fun t => (t.fogDelta, t.fogBlend)) =
    some ([(1, 0x10)], [(0, 0x40), (1, 0x20)]) := by decide
theorem test_vRetrace : after (.vRetrace .read) { boot v1 with display := ⟨false, 0x2345, 0⟩ } (·.readData) =
    some 0x345 := by decide
theorem test_hvRetrace : after (.hvRetrace .read) { boot v2 with display := ⟨false, 0x45, 0x123⟩ } (·.readData) =
    some 0x01230045 := by decide
theorem test_userIntrCMD : after (.userIntrCMD (.write 0 5)) (boot v2) (fun t => (t.slot 0x4F, t.hostEvents)) =
    some (5, []) := by decide

/-! ### Triangles (V1, V70 to V87) -/

/-- The pixels a triangle covers, as spans (row, first, end). -/
def spans (f : FbiIter) : List (Int × Int × Int) := (coverage f).map fun sp => (sp.y, sp.xs, sp.xe)

theorem test_coverage_v70 : spans redFbi = [(0, 0, 4), (1, 0, 3), (2, 0, 2), (3, 0, 1)] := by decide
theorem test_coverage_v74 :
    ((coverage { redFbi with vax := 8, vay := 8, vbx := 0x28, vby := 8, vcx := 8, vcy := 0x28 }).flatMap fun sp =>
      (intRange sp.xs sp.xe).map fun x => (x, sp.y)) = [(1, 1)] := by decide
theorem test_triangleCMD : after (.triangleCMD (.write 0 0)) (red [(0x44, 0x200)])
    (fun t => (t.stats.pixelsOut, t.stats.trianglesOut, t.fbram.map (·.1))) = some (10, 1,
      [1, 3, 5, 7, 1281, 1283, 1285, 2561, 2563, 3841]) := by decide
theorem test_triangle_subpixel : after (.triangleCMD (.write 0 0)) { boot v1 [(0x41, 0x4000000)] with
    fbi := { FbiIter.reset with vax := 0x13, r := ⟨0, 0x1000, 0⟩ } } (·.fbi.r.start) = some 0x500 := by decide
theorem test_ftriangle_no_buffer : after (.ftriangleCMD (.write 0 0x80000000)) (red [(0x41, 0x4000000), (0x44, 0x8200)])
    (fun t => (t.fbi.sign, t.fbi.r.start, t.stats.trianglesOut, t.cacheStates.length)) = some (true, 0xFF000, 0, 0) := by
  decide
theorem test_begin : after (.sBeginTriCMD (.write 0 0)) (boot v2 [] [(0x99, 0x40800000)])
    (fun t => (t.setup.sverts, t.setup.v0.x, t.setup.v2.x)) = some (1, 0x40800000, 0x40800000) := by decide

/-- A field of the state after the steps of a triangle (41_triangle.md R212). -/
def afterTriangle {α : Type} (s : State) (f : State → α) : Option α := (nextOf (triangle s)).map f

def vertexAt (x y r : Word) : SetupVertex := { SetupVertex.zero with x := x, y := y, r := r }

/-- V6 (b): the vertices (0,0), (0,4), (4,0) with culling. -/
theorem test_draw_culled : after (.sDrawTriCMD (.write 0 0)) { boot v2 [(0x44, 0x200)] [(0x98, 0x30001), (0x99, 0x40800000)]
    with setup := ⟨vertexAt 0 0 0, vertexAt 0 0 0, vertexAt 0 0x40800000 0, 2⟩ }
    (fun t => [t.fbi.vax, t.fbi.vay, t.fbi.vbx, t.fbi.vby, t.fbi.vcx, t.fbi.vcy, t.stats.trianglesOut.setWidth 16]) =
      some [0, 0, 0, 0x40, 0x40, 0, 0] := by decide

/-- V86: the red gradient of a triangle with a red second vertex. -/
theorem test_setup_gradient : after (.sDrawTriCMD (.write 0 0)) { boot v2 [(0x44, 0x8200)]
    [(0x98, 0x1), (0x9A, 0x40800000)] with
    setup := ⟨vertexAt 0 0 0, vertexAt 0 0 0, vertexAt 0x40800000 0 0x437F0000, 2⟩ }
    (fun t => [t.fbi.r.dx, t.fbi.r.dy, t.fbi.r.start]) = some [0x3FC00, 0, 0] := by decide

/-! ### Textures (V90 to V128) -/

theorem test_lodoffset : ((boot { v1 with chipmask := 3 } [] [(0x1C3, 0x100)]).derived .t0).lodoffset.take 5 =
    [0x800, 0x10800, 0x14800, 0x15800, 0x15C00] := by decide
theorem test_lodmask_aspect : (((boot { v1 with chipmask := 3 } [] [(0x1C1, 0x80000)]).derived .t0).lodmask,
    ((boot { v1 with chipmask := 3 } [] [(0x1C1, 0x500000)]).derived .t0).hmask) = (0x155, 0x3F) := by decide
theorem test_recipLog : recipLog 0x100000000 = ⟨0x8000, 0⟩ ∧ recipLog 0x180000000 = ⟨21845, -150⟩ ∧
    recipLog 0 = ⟨0x7FFFFFFF, 256000⟩ ∧ recipLog 1 = ⟨0, 8192⟩ ∧ recipLog 0x80000000 = ⟨0x10000, 256⟩ := by decide
theorem test_lodBase : lodBase Tmu.reset = -126464 ∧
    lodBase { Tmu.reset with s := ⟨0, 0x200000000, 0⟩ } = 256 := by decide
theorem test_bilerp : bilerp 0xFF808080 0xFF808080 0xFF808080 0xFF808080 0x13 0xFE = 0xFF808080 ∧
    bilerp 0 0x00FF00FF 0 0 0x80 0 = 0x007F007F := by decide
theorem test_texels : packArgb (texel565 0x8410) = 0xFF848284 ∧ packArgb (texel332 0xE0) = 0xFFFF0000 ∧
    packArgb (texel4444 0x8F00) = 0x88FF0000 ∧ packArgb (texel1555 0x7FFF) = 0x00FFFFFF ∧
    packArgb (texelAI44 0xA5) = 0xAA555555 := by decide
theorem test_combine_replace : textureCombine Tmu.reset 0x08241000 0x100 ⟨0x80, 0x11, 0x22, 0x33⟩ ⟨9, 9, 9, 9⟩ =
    ⟨0x80, 0x11, 0x22, 0x33⟩ := by decide
theorem test_texWr : after (.texWr 0 0 1 2 0x44332211) (boot { v1 with chipmask := 3 }) (·.tmu0.ram) =
    some [(0x104, 0x11), (0x105, 0x22), (0x106, 0x33), (0x107, 0x44)] := by decide
/-- V124, V126. -/
theorem test_texture_data_swapped : texWriteData 0x4000000 0xAABBCCDD = 0xCCDDAABB := by decide
theorem test_texture_absent_unit : (nextOf (textureWrite 1 0 0 0 1 (boot { v1 with chipmask := 3 }))).map (·.log) =
    some [.texNoUnit 1] := by decide
theorem test_texWr_bad_lod : after (.texWr 0 9 0 0 1) (boot { v1 with chipmask := 3 })
    (fun t => (t.log, t.tmu0.dirty)) = some ([.texBadLod 9], true) := by decide
theorem test_texRd : after (.texRd 0 0 0 0) (boot v1) (fun t => (t.readData, t.log)) =
    some (0xFFFFFFFF, [.texReadUnsupported 0x200000]) := by decide
/-- V2: every texel equals the chroma key. -/
theorem test_textured_chroma : afterTriangle { boot { v1 with chipmask := 3 }
    [(0x41, 0x08000001), (0x44, 0x202)] [(0x1C0, 0x08241500)] with fbi := redFbi }
    (fun t => (t.stats.pixelsIn, t.stats.chromaFail, t.stats.pixelsOut, t.tmu0.dirty)) = some (10, 10, 0, false) := by
  decide

/-! ### Pixels (V130 to V161) -/

theorem test_clamp8 : clamp8 false 0x101000 = 1 ∧ clamp8 false 0xFFFFF000 = 0 ∧ clamp8 false 0xFFFFE000 = 0xFE ∧
    clamp8 true 0xFFFFE000 = 0 ∧ clamp8 true 0x101000 = 0xFF := by decide
theorem test_clampedZ : clampedZ false 0x1000 = 1 ∧ clampedZ false 0x10000000 = 0xFFFF ∧
    clampedZ false 0xFFFFF000 = 0 := by decide
theorem test_float16 : wFloating 0x100000000 = 0 ∧ wFloating 0x80000000 = 0x1000 ∧ wFloating 0x8000 = 0xFFFF := by decide
theorem test_clipped : afterTriangle (red [(0x44, 0x201), (0x46, 2), (0x47, 4)])
    (fun t => (t.stats.pixelsIn, t.stats.pixelsOut)) = some (10, 7) := by decide
theorem test_stipple_rotates : afterTriangle (red [(0x44, 0x204), (0x50, 0x40000000)])
    (fun t => (t.stats.pixelsOut, t.slot 0x50)) = some (1, 0x100) := by decide
theorem test_depth_never : afterTriangle (red [(0x44, 0x210)])
    (fun t => (t.stats.zfuncFail, t.stats.pixelsOut, t.fbram)) = some (10, 0, []) := by decide
theorem test_alpha_mask : afterTriangle
    { red [(0x44, 0x2200)] with fbi := { redFbi with a := ⟨0x80000, 0, 0⟩ } } (·.stats.afuncFail) = some 10 := by decide
theorem test_combine_invert : afterTriangle (red [(0x41, 0x10000), (0x44, 0x200)])
    (fun t => fbRead16 t 0) = some 0x07FF := by decide
theorem test_combine_color1 : afterTriangle (red [(0x41, 2), (0x44, 0x200), (0x52, 0xFF00)])
    (fun t => fbRead16 t 0) = some 0x07E0 := by decide
theorem test_fog : fogChannel 1 0x42 200 0 = 147 ∧ fogChannel 9 255 0 255 = 255 := by decide
theorem test_reduce : reduce565 0 ⟨0, 0x84, 0x82, 0x84⟩ 0 0 = 0x8410 ∧ reduce565 0 ⟨0, 7, 3, 7⟩ 0 0 = 0 ∧
    reduce565 0x100 ⟨0, 0x84, 0, 0⟩ 0 0 = 0x8000 ∧ reduce565 0x100 ⟨0, 0x84, 0, 0⟩ 0 3 = 0x8800 := by decide

/-! ### Commands and LFB (V172 to V209) -/

theorem test_nop_data0 : after (.nopCMD (.write 0 1)) { boot v1 with stats := ⟨3, 1, 1, 1, 2, 4, 5, 6⟩ } (·.stats) =
    some ⟨0, 0, 0, 0, 0, 4, 0, 0⟩ := by decide
theorem test_nop_data1 : after (.nopCMD (.write 0 2)) { boot v2 with stats := ⟨3, 1, 1, 1, 2, 4, 5, 6⟩ } (·.stats) =
    some ⟨3, 1, 1, 1, 2, 0, 5, 6⟩ := by decide
theorem test_fastfill : after (.fastfillCMD (.write 0 0))
    (boot v1 [(0x44, 0x4200), (0x46, 2), (0x47, 1), (0x52, 0xFF8000)])
    (fun t => (fbRead16 t 0x4B000, fbRead16 t 0x4B001, fbRead16 t 0x4B002, t.stats.pixelsOut)) =
      some (0xFC00, 0xFC00, 0, 2) := by decide
theorem test_fastfill_reserved_buffer : after (.fastfillCMD (.write 0 0))
    (boot v1 [(0x44, 0xC600), (0x46, 2), (0x47, 1), (0x4C, 0x1234), (0x52, 0xFF8000)])
    (fun t => (fbRead16 t 0x96000, fbRead16 t 0x96001, t.fbram.length, t.stats.pixelsOut)) =
      some (0x1234, 0x1234, 4, 0) := by decide
theorem test_swap_v1 : after (.swapbufferCMD (.write 0 0)) { boot v1 with swap := ⟨0, 1, 3, 0, false, 0, false⟩ }
    (fun t => (t.swap, t.hostEvents)) = some (⟨1, 0, 0, 3, false, 0, false⟩, [.displaySwap 1]) := by decide
theorem test_swap_v2_keeps : after (.swapbufferCMD (.write 0 0x200)) { boot v2 with swap := ⟨0, 1, 2, 0, false, 0, false⟩ }
    (·.swap) = some ⟨0, 1, 0, 2, false, 0, true⟩ := by decide
theorem test_swap_pends : (nextOf (swapWrite 1 5 { boot v1 with swap := ⟨0, 1, 5, 0, false, 0, false⟩ })).map
    (·.swap) = some ⟨0, 1, 5, 0, true, 2, false⟩ := by decide
theorem test_vblank_swaps : (vblank { boot v1 with swap := ⟨0, 1, 1, 0, true, 2, false⟩ }).swap =
    ⟨1, 0, 0, 2, false, 2, false⟩ := by decide
theorem test_vblank_saturates : (vblank { boot v1 with swap := ⟨0, 1, 250, 0, false, 0, false⟩ }).swap.vblankCount =
    250 := by decide
theorem test_lfb_565 : after (.lfbWr 0 0x001FF800) (boot v1) (fun t => (fbRead16 t 0, fbRead16 t 1, t.stats.pixelsOut)) =
    some (0xF800, 0x001F, 2) := by decide
theorem test_lfb_both_reserved : after (.lfbWr 0 0) (boot v1 [(0x45, 0x23)]) (·.log) = some [.lfbReservedFormat 3] := by
  decide
/-- V196, V199, V192, V203, V205. -/
theorem test_lfb_pipeline_pixel : (nextOf (pipelinePixel 0 ⟨⟨0xFF, 0, 0xFF, 0⟩, 0⟩ 0 0 (boot v1 [(0x44, 0x200)]))).map
    (fun t => (fbRead16 t 0, t.stats.pixelsIn, t.stats.pixelsOut)) = some (0x07E0, 1, 1) := by decide
theorem test_lfb_alpha_plane : (fun t => (fbRead16 t 0, fbRead16 t 0x96000))
    (rawPixel 0 ⟨true, true, false⟩ ⟨⟨0x80, 0x40, 0x20, 0x10⟩, 0⟩ 0 0 (boot v1 [(0x44, 0x40000)])) = (0x4102, 0x80) := by
  decide
theorem test_lfb_decode : (lfbDecode 5 0 0 0 0x80402010 0).color = ⟨0x80, 0x40, 0x20, 0x10⟩ ∧
    (lfbDecode 5 2 0 0 0x80402010 0).color = ⟨0x10, 0x80, 0x40, 0x20⟩ ∧
    (lfbDecode 2 0 0 0 0xFC00 0).color = ⟨0xFF, 0xFF, 0, 0⟩ := by decide
theorem test_lfb_rearranged : lfbWriteData 0x1005 0x102040FF = 0xFF402010 ∧
    lfbWriteData 0x800 0xF800001F = 0x001FF800 := by decide
theorem test_lfb_out_of_range : (fun t => (t.fbram, t.stats.pixelsOut))
    (rawPixel 0 ⟨false, false, true⟩ ⟨⟨0, 0, 0, 0⟩, 0x1234⟩ 0 1023 (boot v1)) = ([], 1) := by decide
theorem test_lfb_read_swapped : after (.lfbRd 0x403)
    { boot v1 [(0x45, 0x8000)] with fbram := [(2573, 0xF8), (2574, 0x1F)] } (·.readData) = some 0xF800001F := by decide
theorem test_lfb_read_edge : after (.lfbRd 0x54C80) (boot v1 [(0x45, 0x80)]) (·.readData) = some 0xFFFFFFFF := by decide

/-! ### Stops (V63, V103, V127, V220 to V231) -/

theorem test_refuses_cmdFifo : refusalOf (exec (.cmdFifoBaseAddr (.write 0 5)) (boot v2)) =
    some (.undescribedRegister 0x78) := by decide
theorem test_refuses_tdirect_write : refusalOf (textureWrite 0 0 0 0 0
    (boot { v2 with chipmask := 3 } [] [(0x1C1, 0x8000000)])) = some .texDirectWrite := by decide
theorem test_refuses_separate_filter : refusalOf (triangle
    { boot { v2 with chipmask := 3 } [(0x41, 0x08000001), (0x44, 0x200)] [(0x1C2, 0x200000)] with fbi := redFbi }) =
      some .separateRgbaFilter := by decide
theorem test_refuses_reserved_format : refusalOf (triangle
    { boot { v1 with chipmask := 3 } [(0x41, 0x08000001), (0x44, 0x200)] [(0x1C0, 0x08241700)] with fbi := redFbi }) =
      some .reservedTexelFormat := by decide
theorem test_refuses_level_nine : refusalOf (triangle
    { boot { v1 with chipmask := 3 } [(0x41, 0x08000001), (0x44, 0x200)] [(0x1C0, 0x08241000), (0x1C1, 0xFC0)] with
      fbi := redFbi, tmu0 := { Tmu.reset with s := ⟨0, 0x40000000000, 0⟩ } }) = some .noSuchLevel := by decide
theorem test_refuses_narrow : refusalOf (runRequest ⟨.wr, .narrow, 0x110, 0⟩ (boot v1)) = some .narrowRequest := by decide
/-- V103: the fault, with the fatal flag set and the triangle not counted in the state it leaves. -/
theorem test_cache_full : (leftOf (triangle { boot { v1 with cacheReserved := 1023 }
    [(0x44, 0x200)] with cacheStates := [⟨1, 0, 0, 0, 0, 0⟩] })).map (fun t => (t.fatal, t.stats.trianglesOut)) =
      some (true, 0) := by decide
theorem test_after_fatal : faultOf (step { boot v1 with fatal := true }) = some .stopped := by decide

/-! ### Witnesses: a state and operands that meet the hypotheses of each obligation, clause by clause -/

theorem witness_DecodeOfEncode : Instr.wellFormed (.blt 0xB0 (.write 0 5)) = true ∧
    Instr.wellFormed (.blt 0xBF .read) = true ∧ Instr.wellFormed (.texWr 3 15 0xFF 0x7F 0) = true := by decide

theorem witness_IgnoredAddressBits :
    (0x000113#24 &&& 0xFFFFFC = 0x000110#24 &&& 0xFFFFFC) ∧
    (0x1FC110#24 &&& 0xC00000 = 0 ∧ 0x1FC110#24 &&& 0xE03FFC = 0x000110#24 &&& 0xE03FFC) ∧
    (0x003D10#24 &&& 0xC00000 = 0 ∧ 0x003D10#24 &&& 0xE003FC = 0x000110#24 &&& 0xE003FC) := by decide

/-- The last number the alternate map redirects and the first it does not. -/
theorem witness_AlternateMapRedirects : (0x2000FC#24 &&& 0xC00000 = 0 ∧ (0x2000FC#24).extractLsb' 2 8 = 0x3F#8) ∧
    (0x200100#24 &&& 0xC00000 = 0 ∧ (0x200100#24).extractLsb' 2 8 = 0x40#8) := by decide

theorem witness_WriteWithoutPermissionLogged :
    (undescribed (boot v1).cfg.gen 0x53 = false ∧ (accessFlags (boot v1).cfg.gen 0x53).w = false ∧
      encode (.fbiPixelsIn (.write 0 5)) = regRequest 0x53 (.write 0 5)) ∧
    (undescribed (boot v1).cfg.gen 0x21 = false ∧ (accessFlags (boot v1).cfg.gen 0x21).w = false ∧
      decode (boot v1).remap ⟨.wr, .full, 0x84, 7⟩ = .error (.reserved 0x21 (.write 0 7))) :=
  ⟨by decide, by decide, by decide, rfl⟩

theorem witness_EmptyChipSetLogged : encode (.textureMode (.write 2 1)) = regRequest 0xC0 (.write 2 1) ∧
    undescribed (boot v1).cfg.gen 0xC0 = false ∧ (accessFlags (boot v1).cfg.gen 0xC0).w = true ∧
    (if (2#4 : ChipSet) = 0#4 then 0xF#4 else 2#4) &&& (boot v1).cfg.chipmask = 0#4 := by decide

theorem witness_UndescribedWritesRefused :
    (∃ row ∈ undescribedRows, Instr.cmdFifoBaseAddr (.write 0 5) = row.instr (.write 0 5) ∧ (0x78 : RegNum) = row.num) ∧
    (Instr.blt 0xB0 (.write 0 5) = .blt 0xB0 (.write 0 5) ∧ (0xB0 : RegNum).extractLsb' 4 4 = 0xB#4) ∧
    (0xBF : RegNum).extractLsb' 4 4 = 0xB#4 :=
  ⟨⟨_, .head _, rfl, rfl⟩, by decide, by decide⟩

theorem witness_ReadWithoutPermissionLogged :
    ((accessFlags (boot v1).cfg.gen 0x02).r = false ∧ encode (.vertexAx .read) = regRequest 0x02 .read) ∧
    ((accessFlags (boot v1).cfg.gen 0x21).r = false ∧
      decode (boot v1).remap ⟨.rd, .full, 0x84, 0⟩ = .error (.reserved 0x21 .read)) :=
  ⟨by decide, by decide, rfl⟩

theorem witness_ReadsChangeNothingElse : (encode (.lfbRd 0)).kind = .rd ∧ (encode (.vertexAx .read)).kind = .rd := by
  decide

/-- A logged register write, and a logged texture write with a bad LOD. -/
theorem witness_LoggedTransactionsChangeNothingElse :
    (∃ t, exec (.fbiPixelsIn (.write 0 5)) (boot v1) = .next t ∧ t.log ≠ (boot v1).log) ∧
    (∃ t, exec (.texWr 0 9 0 0 1) (boot { v1 with chipmask := 3 }) = .next t ∧
      t.log ≠ (boot { v1 with chipmask := 3 }).log) :=
  ⟨⟨_, rfl, by decide⟩, ⟨_, rfl, by decide⟩⟩

/-- A triangle whose key finds the cache full, textured from TMU 0 with the given registers, in generation `g`. -/
def stopping (g : Gen) (tmu : Table Word) (keys : List RenderKey) : State :=
  { boot { v1 with gen := g, chipmask := 3, cacheReserved := 1023 } [(0x41, 0x08000001), (0x44, 0x200)] tmu with
    fbi := redFbi, cacheStates := keys, tmu0 := { Tmu.reset with s := ⟨0, 0x40000000000, 0⟩ } }

theorem stopping_inv (g : Gen) (tmu : Table Word) (keys : List RenderKey)
    (h : (g = .v1 ∧ tmu = [] ∧ keys = [⟨1, 0, 0, 0, 0, 0⟩]) ∨ (g = .v2 ∧ tmu = [(0x1C1, 0x8000000)] ∧ keys = []) ∨
      (g = .v2 ∧ tmu = [(0x1C2, 0x200000)] ∧ keys = []) ∨ (g = .v1 ∧ tmu = [(0x1C0, 0x08241700)] ∧ keys = []) ∨
      (g = .v1 ∧ tmu = [(0x1C0, 0x08241000), (0x1C1, 0xFC0)] ∧ keys = [])) : (stopping g tmu keys).Inv := by
  rcases h with ⟨rfl, rfl, rfl⟩ | ⟨rfl, rfl, rfl⟩ | ⟨rfl, rfl, rfl⟩ | ⟨rfl, rfl, rfl⟩ | ⟨rfl, rfl, rfl⟩ <;>
    exact ⟨by decide, by decide, by decide, by decide, by decide, by decide, by decide, by decide, by decide,
      by decide⟩

/-- A state for each stop. -/
theorem witness_StopsAreListed :
    ((stopping .v1 [] [⟨1, 0, 0, 0, 0, 0⟩]).Inv ∧
      (leftOf (exec (.triangleCMD (.write 0 0)) (stopping .v1 [] [⟨1, 0, 0, 0, 0, 0⟩]))).isSome = true) ∧
    ((stopping .v2 [(0x1C1, 0x8000000)] []).Inv ∧
      refusalOf (exec (.cmdFifoHoles (.write 0 5)) (stopping .v2 [(0x1C1, 0x8000000)] [])) =
        some (.undescribedRegister 0x7E) ∧
      refusalOf (exec (.texWr 0 15 0 0 0) (stopping .v2 [(0x1C1, 0x8000000)] [])) = some .texDirectWrite) ∧
    ((stopping .v2 [(0x1C2, 0x200000)] []).Inv ∧
      refusalOf (exec (.ftriangleCMD (.write 0 0)) (stopping .v2 [(0x1C2, 0x200000)] [])) =
        some .separateRgbaFilter) ∧
    ((stopping .v1 [(0x1C0, 0x08241700)] []).Inv ∧
      refusalOf (exec (.triangleCMD (.write 0 0)) (stopping .v1 [(0x1C0, 0x08241700)] [])) =
        some .reservedTexelFormat) ∧
    ((stopping .v1 [(0x1C0, 0x08241000), (0x1C1, 0xFC0)] []).Inv ∧
      refusalOf (exec (.triangleCMD (.write 0 0)) (stopping .v1 [(0x1C0, 0x08241000), (0x1C1, 0xFC0)] [])) =
        some .noSuchLevel) :=
  ⟨⟨stopping_inv _ _ _ (by simp), by decide⟩, ⟨stopping_inv _ _ _ (by simp), by decide, by decide⟩,
    ⟨stopping_inv _ _ _ (by simp), by decide⟩, ⟨stopping_inv _ _ _ (by simp), by decide⟩,
    stopping_inv _ _ _ (by simp), by decide⟩

/-- A write that leaves out the TMUs, and one that leaves out the FBI. -/
theorem witness_ChipSelectIsolates :
    (∃ t, encode (.startS (.write 1 8)) = regRequest 0x0D (.write 1 8) ∧ ¬ TriangleWrite (.startS (.write 1 8)) ∧
      exec (.startS (.write 1 8)) (boot { v1 with chipmask := 3 }) = .next t ∧
      (effectiveChips 1 (boot { v1 with chipmask := 3 }).cfg.chipmask).getLsbD (chipOf .t0) = false) ∧
    (∃ t, encode (.startW (.write 2 8)) = regRequest 0x0F (.write 2 8) ∧ ¬ TriangleWrite (.startW (.write 2 8)) ∧
      exec (.startW (.write 2 8)) (boot { v1 with chipmask := 3 }) = .next t ∧
      (effectiveChips 2 (boot { v1 with chipmask := 3 }).cfg.chipmask).getLsbD 0 = false ∧ (0x0F : RegNum) ≠ 0x9B) :=
  ⟨⟨_, rfl, (by rintro ⟨c, d, h | h | h⟩ <;> cases h), rfl, by decide⟩,
    ⟨_, rfl, (by rintro ⟨c, d, h | h | h⟩ <;> cases h), rfl, by decide, by decide⟩⟩

theorem witness_VertexWritesSetCoordinates : ∃ row, row ∈ vertexRows ∧ tableWf 0 (boot v1).regs = true ∧
    effectiveChips 1 (boot v1).cfg.chipmask ≠ 0#4 := ⟨_, .head _, by decide, by decide⟩

theorem witness_ColorWritesSetIterators : ∃ row, row ∈ colorRows ∧ tableWf 0 (boot v1).regs = true ∧
    effectiveChips 1 (boot v1).cfg.chipmask ≠ 0#4 := ⟨_, .head _, by decide, by decide⟩

theorem witness_DepthWritesSetIterators : ∃ row, row ∈ depthRows ∧ tableWf 0 (boot v1).regs = true ∧
    effectiveChips 1 (boot v1).cfg.chipmask ≠ 0#4 := ⟨_, .head _, by decide, by decide⟩

theorem witness_CoordWritesSetTmus : ∃ row, row ∈ coordRows ∧ tableWf 0 State.reset.regs = true ∧
    effectiveChips 6 State.reset.cfg.chipmask ≠ 0#4 := ⟨_, .head _, by decide, by decide⟩

theorem witness_WWritesSetAllUnits : ∃ row, row ∈ wRows ∧ tableWf 0 State.reset.regs = true ∧
    effectiveChips 0 State.reset.cfg.chipmask ≠ 0#4 := ⟨_, .head _, by decide, by decide⟩

/-- 0.5 truncates to 0 at no fraction bits, 2^23 is in range above, 2^31 and the largest shift wrap, the next exponent
saturates, and a subnormal gives 0. -/
theorem witness_FloatConversionTruncates :
    ((0x3F000000#32).extractLsb' 23 8).toNat + 0 < 150 ∧
    (150 ≤ ((0x4B000000#32).extractLsb' 23 8).toNat + 0 ∧
      (((0x4B000000#32).extractLsb' 0 23).toNat + 2 ^ 23) * 2 ^ (((0x4B000000#32).extractLsb' 23 8).toNat + 0 - 150) <
        2 ^ (32 - 1)) ∧
    (150 ≤ ((0x4F000000#32).extractLsb' 23 8).toNat + 0 ∧ ((0x4F000000#32).extractLsb' 23 8).toNat + 0 < 150 + 32 ∧
      (((0x4F000000#32).extractLsb' 0 23).toNat + 2 ^ 23) * 2 ^ (((0x4F000000#32).extractLsb' 23 8).toNat + 0 - 150) =
        2 ^ (32 - 1)) ∧
    ((0x5A800000#32).extractLsb' 23 8).toNat + 0 = 150 + 31 ∧
    150 + 32 ≤ ((0x5B000000#32).extractLsb' 23 8).toNat + 0 ∧
    (((0x007FFFFF#32).extractLsb' 23 8).toNat = 0 ∧ 126 < 127) := by decide

theorem witness_StoreOnlyWrites : ∃ row, row ∈ storeOnlyRows ∧ tableWf 0 (boot v2).regs = true ∧
    row.Open (boot v2) 0 := ⟨_, .head _, by decide, fun _ => rfl, by decide⟩

theorem witness_FogTableWrites : ∃ row, row ∈ fogRowsByIndex ∧ tableWf 0 (boot v1).regs = true ∧
    tableWf 0 (boot v1).fogDelta = true ∧ tableWf 0 (boot v1).fogBlend = true ∧
    effectiveChips 0 (boot v1).cfg.chipmask ≠ 0#4 := ⟨_, .head _, by decide, by decide, by decide, by decide⟩

theorem witness_SetupDataWrites : ∃ row, row ∈ setupDataRows ∧ tableWf 0 (boot v2).regs = true ∧
    row.Open (boot v2) 0 := ⟨_, .head _, by decide, fun _ => rfl, by decide⟩

theorem witness_PackedColorUnpacks : tableWf 0 State.reset.regs = true ∧ State.reset.cfg.gen = .v2 ∧
    effectiveChips 2 State.reset.cfg.chipmask ≠ 0#4 := by decide

/-- With INIT_ENABLE, for fbiInit0 and for fbiInit1, and without. -/
theorem witness_InitRegisterWrites :
    (∃ row, row ∈ initRegRows ∧ row.num = 0x84 ∧ tableWf 0 (boot v2).regs = true ∧ row.Open (boot v2) 0 ∧
      (boot v2).cfg.initEnable = true) ∧
    (∃ row, row ∈ initRegRows ∧ row.num = 0x85 ∧ tableWf 0 (boot v2).regs = true ∧ row.Open (boot v2) 0 ∧
      (boot v2).cfg.initEnable = true) ∧
    (∃ row, row ∈ initRegRows ∧ tableWf 0 (boot { v2 with initEnable := false }).regs = true ∧
      row.Open (boot { v2 with initEnable := false }) 0 ∧ (boot { v2 with initEnable := false }).cfg.initEnable = false) :=
  ⟨⟨_, .head _, rfl, by decide, ⟨fun _ => rfl, by decide⟩, rfl⟩,
    ⟨_, .tail _ (.head _), rfl, by decide, ⟨fun _ => rfl, by decide⟩, rfl⟩,
    _, .head _, by decide, ⟨fun _ => rfl, by decide⟩, rfl⟩

theorem witness_VideoTimingWrites : ∃ row, row ∈ timingRows ∧ tableWf 0 (boot v2).regs = true ∧
    row.Open (boot v2) 0 := ⟨_, .head _, by decide, fun _ => rfl, by decide⟩

theorem witness_TmuRegisterWrites : ∃ row, row ∈ tmuRegRows ∧ tableWf 0 State.reset.regs = true ∧
    row.Open State.reset 2 := ⟨_, .head _, by decide, fun _ => rfl, by decide⟩

theorem witness_NccRegisterWrites : ∃ row, row ∈ nccRows ∧ tableWf 0 State.reset.regs = true ∧
    State.reset.tmu0.sound State.reset.cfg.texBits0 = true ∧ State.reset.tmu1.sound State.reset.cfg.texBits1 = true ∧
    effectiveChips 2 State.reset.cfg.chipmask ≠ 0#4 := ⟨_, .head _, by decide, by decide, by decide, by decide⟩

theorem witness_PlainRegisterReads : ∃ row, row ∈ plainReadRows ∧ (row.v2only = true → (boot v1).cfg.gen = .v2) :=
  ⟨_, .head _, fun h => by cases h⟩

theorem witness_CounterReads : ∃ row, row ∈ counterRows ∧ (row.v2only = true → (boot v1).cfg.gen = .v2) :=
  ⟨_, .head _, fun h => by cases h⟩

theorem witness_RetraceAndHistoryReads : (boot v2).cfg.gen = .v2 := rfl

theorem witness_NopClearsCounters : tableWf 0 (boot v1).regs = true ∧ effectiveChips 0 (boot v1).cfg.chipmask ≠ 0#4 := by
  decide

/-- With two colour surfaces and with three. -/
theorem witness_SwapCommand :
    (tableWf 0 (boot v1).regs = true ∧ effectiveChips 0 (boot v1).cfg.chipmask ≠ 0#4 ∧
      ((boot v1).surf.rgb2 = none → (boot v1).swap.front ≠ 2)) ∧
    let s := { boot v1 with surf := ⟨some 0, some 0x96000, some 0x12C000, none, 640, 0⟩,
                            swap := ⟨2, 0, 0, 0, false, 0, false⟩ }
    tableWf 0 s.regs = true ∧ effectiveChips 0 s.cfg.chipmask ≠ 0#4 ∧ (s.surf.rgb2 = none → s.swap.front ≠ 2) := by
  decide

/-- A swap due at this blank, and one due at the next. -/
theorem witness_VblankEvent :
    (let s := { boot v1 with swap := ⟨0, 1, 1, 0, true, 2, false⟩ }
     s.swap.pending = true ∧ s.swap.interval.toNat ≤ min (s.swap.vblankCount + 1) 250) ∧
    (let s := { boot v1 with swap := ⟨0, 1, 0, 0, true, 2, false⟩ }
     ¬ (s.swap.pending = true ∧ s.swap.interval.toNat ≤ min (s.swap.vblankCount + 1) 250)) := by decide

/-- The state after a vsync swap with a transaction waiting, without and with a blank behind it. -/
def held (later : List HostInput) : State :=
  { boot v1 with swap := ⟨0, 1, 0, 0, true, 1, false⟩, inbox := .bus ⟨.wr, .full, 0x110, 7⟩ ⟨false, 0, 0⟩ :: later }

theorem witness_HoldTakesOnlyVblank :
    ((held []).fatal = false ∧ (held []).swap.pending = true ∧ ∀ i ∈ (held []).inbox, i ≠ .vblank) ∧
    ((held [.vblank]).fatal = false ∧ (held [.vblank]).swap.pending = true ∧
      ∃ before after, (∀ i ∈ before, i ≠ HostInput.vblank) ∧ (held [.vblank]).inbox = before ++ .vblank :: after) :=
  ⟨⟨rfl, rfl, by decide⟩, rfl, rfl, [.bus ⟨.wr, .full, 0x110, 7⟩ ⟨false, 0, 0⟩], [], by decide, rfl⟩

theorem witness_FastfillCountsAndFrame : tableWf 0 (boot v1).regs = true ∧
    effectiveChips 0 (boot v1).cfg.chipmask ≠ 0#4 := by decide

/-- A rectangle as wide as the surface, filled on the back surface (RGB mask), on the aux surface (aux mask) or on both. -/
def fill (fbz : Word) : State := boot v1 [(0x44, fbz), (0x46, 640), (0x47, 4)]

theorem fill_sides (fbz : Word) (h : fbz = 0x4200 ∨ fbz = 0x4400 ∨ fbz = 0x4600) :
    (fill fbz).clipLeft = 0 ∧ (fill fbz).clipRight = 640 ∧ (fill fbz).clipLowY = 0 ∧ (fill fbz).clipHighY = 4 ∧
      fbzYOrigin (fill fbz).fbzMode = false := by
  rcases h with rfl | rfl | rfl <;> decide

theorem fill_fits (fbz : Word) (base : Nat) (h : base ≤ 0x12C000) (hy : fbz = 0x4200 ∨ fbz = 0x4400 ∨ fbz = 0x4600) :
    (fill fbz).fillFits base := by
  obtain ⟨-, hr, hl, hh, hs⟩ := fill_sides fbz hy
  have hp : ((fill fbz).surf.rowpixels : Int) = 640 := rfl
  have hb : ((2 ^ (fill fbz).cfg.fbBits : Nat) : Int) = 2097152 := by rcases hy with rfl | rfl | rfl <;> rfl
  refine ⟨by rw [hr, hp], fun y h0 h1 => ?_⟩
  rw [hl] at h0; rw [hh] at h1; rw [screenY, if_neg (by simp [hs]), hp, hr, hb]; omega

theorem fill_apart : (fill 0x4600).fillApart 0x96000 0x12C000 := by
  intro x y x' y' h h'
  obtain ⟨hx, hr, hl, hh, hs⟩ := fill_sides 0x4600 (by simp)
  simp only [State.inFill, hx, hr, hl, hh] at h h'
  have hp : (fill 0x4600).surf.rowpixels = 640 := rfl
  simp only [pixelAddr, pixelOffset, screenY, hs, hp, Bool.false_eq_true, if_false]
  omega

/-- A colour fill, an aux fill, and a fill of both surfaces. -/
theorem witness_FastfillPixels :
    ((fill 0x4200).fbram.wf = true ∧ effectiveChips 0 (fill 0x4200).cfg.chipmask ≠ 0#4 ∧
      (fill 0x4200).fillColor = some 0x96000 ∧ (fill 0x4200).fillAux = none ∧ (fill 0x4200).fillFits 0x96000) ∧
    ((fill 0x4400).fbram.wf = true ∧ effectiveChips 0 (fill 0x4400).cfg.chipmask ≠ 0#4 ∧
      (fill 0x4400).fillColor = none ∧ (fill 0x4400).fillAux = some 0x12C000 ∧ (fill 0x4400).fillFits 0x12C000) ∧
    ((fill 0x4600).fbram.wf = true ∧ effectiveChips 0 (fill 0x4600).cfg.chipmask ≠ 0#4 ∧
      (fill 0x4600).fillColor = some 0x96000 ∧ (fill 0x4600).fillAux = some 0x12C000 ∧
      (fill 0x4600).fillFits 0x96000 ∧ (fill 0x4600).fillFits 0x12C000 ∧ (fill 0x4600).fillApart 0x96000 0x12C000 ∧
      (fill 0x4600).inFill 639 3) :=
  ⟨⟨by decide, by decide, by decide, by decide, fill_fits _ _ (by decide) (by simp)⟩,
    ⟨by decide, by decide, by decide, by decide, fill_fits _ _ (by decide) (by simp)⟩,
    by decide, by decide, by decide, by decide, fill_fits _ _ (by decide) (by simp), fill_fits _ _ (by decide) (by simp),
    fill_apart, by unfold State.inFill; decide⟩

theorem witness_TriangleWithoutBuffer : ∃ row, row ∈ triangleRows ∧ tableWf 0 (red [(0x44, 0x8200)]).regs = true ∧
    effectiveChips 0 (red [(0x44, 0x8200)]).cfg.chipmask ≠ 0#4 ∧ (red [(0x44, 0x8200)]).drawOffset = none :=
  ⟨_, .head _, by decide, by decide, by decide⟩

/-- The red triangle with room for one key in the cache. -/
def tight (keys : List RenderKey) : State :=
  { boot { v1 with cacheReserved := 1023 } [(0x44, 0x200)] with fbi := redFbi, cacheStates := keys }

/-- The red triangle, textured from a unit whose lodmax is just below 8.0, dirty. -/
def textured : State :=
  { boot { v1 with chipmask := 3 } [(0x41, 0x08000001), (0x44, 0x200)] [(0x1C0, 0x08241500), (0x1C1, 0x7C0)] with
    fbi := redFbi }

theorem tight_inv : (tight []).Inv :=
  ⟨by decide, by decide, by decide, by decide, by decide, by decide, by decide, by decide, by decide, by decide⟩

theorem tight_hit_inv : (tight [renderKey (tight []) 0]).Inv :=
  ⟨by decide, by decide, by decide, by decide, by decide, by decide, by decide, by decide, by decide, by decide⟩

theorem textured_inv : textured.Inv :=
  ⟨by decide, by decide, by decide, by decide, by decide, by decide, by decide, by decide, by decide, by decide⟩

theorem no_units (s : State) (h : activeTmus s.ntmu = []) : s.textureReady := by
  intro u hu; rw [h] at hu; cases hu

/-- The textured triangle with lodmax at most 8.75 and level 8 present, on V1 with the V2 filter bit set. -/
def texturedDeep : State :=
  { boot { v1 with chipmask := 3 } [(0x41, 0x08000001), (0x44, 0x200)]
      [(0x1C0, 0x08241500), (0x1C1, 0x8C0), (0x1C2, 0x200000)] with
    fbi := redFbi }

theorem texturedDeep_inv : texturedDeep.Inv :=
  ⟨by decide, by decide, by decide, by decide, by decide, by decide, by decide, by decide, by decide, by decide⟩

theorem textured_ready : textured.textureReady ∧ texturedDeep.textureReady := by
  simp only [State.textureReady, State.samples, State.separateFilter, State.formatReserved, State.levelsExist]
  decide

/-- With room in the cache, with the key in a full cache, and with textures whose lodmax lies on both sides of 8.0. -/
theorem witness_TriangleDraws :
    (∃ row, row ∈ triangleRows ∧ (tight []).Inv ∧ effectiveChips 0 (tight []).cfg.chipmask ≠ 0#4 ∧
      (tight []).drawOffset = some 0 ∧ (tight []).textureReady ∧ (tight []).cacheRoom) ∧
    (∃ row, row ∈ triangleRows ∧ (tight [renderKey (tight []) 0]).Inv ∧
      effectiveChips 0 (tight [renderKey (tight []) 0]).cfg.chipmask ≠ 0#4 ∧
      (tight [renderKey (tight []) 0]).drawOffset = some 0 ∧ (tight [renderKey (tight []) 0]).textureReady ∧
      (tight [renderKey (tight []) 0]).cacheRoom) ∧
    (∃ row, row ∈ triangleRows ∧ textured.Inv ∧ effectiveChips 0 textured.cfg.chipmask ≠ 0#4 ∧
      textured.drawOffset = some 0 ∧ textured.textureReady ∧ textured.cacheRoom ∧ textured.ntmu = 1) ∧
    (∃ row, row ∈ triangleRows ∧ texturedDeep.Inv ∧ effectiveChips 0 texturedDeep.cfg.chipmask ≠ 0#4 ∧
      texturedDeep.drawOffset = some 0 ∧ texturedDeep.textureReady ∧ texturedDeep.cacheRoom ∧ texturedDeep.ntmu = 1) :=
  ⟨⟨_, .head _, tight_inv, by decide, by decide, no_units _ (by decide), .inr (by decide)⟩,
    ⟨_, .head _, tight_hit_inv, by decide, by decide, no_units _ (by decide), .inl (by decide)⟩,
    ⟨_, .head _, textured_inv, by decide, by decide, textured_ready.1, .inr (by decide), by decide⟩,
    _, .head _, texturedDeep_inv, by decide, by decide, textured_ready.2, .inr (by decide), by decide⟩

/-- With another key in a full cache, and with a key to spare. -/
theorem witness_TriangleCacheFull :
    (∃ row, row ∈ triangleRows ∧ tableWf 0 (tight [⟨1, 0, 0, 0, 0, 0⟩]).regs = true ∧
      effectiveChips 0 (tight [⟨1, 0, 0, 0, 0, 0⟩]).cfg.chipmask ≠ 0#4 ∧
      (tight [⟨1, 0, 0, 0, 0, 0⟩]).drawOffset = some 0 ∧
      renderKey (tight [⟨1, 0, 0, 0, 0, 0⟩]) (tight [⟨1, 0, 0, 0, 0, 0⟩]).ntmu ∉
        (tight [⟨1, 0, 0, 0, 0, 0⟩]).cacheStates ∧
      Config.cacheCapacity - (tight [⟨1, 0, 0, 0, 0, 0⟩]).cfg.cacheReserved ≤
        (tight [⟨1, 0, 0, 0, 0, 0⟩]).cacheStates.length) ∧
    (∃ row, row ∈ triangleRows ∧ tableWf 0 (tight []).regs = true ∧ effectiveChips 0 (tight []).cfg.chipmask ≠ 0#4 ∧
      (tight []).drawOffset = some 0 ∧
      ¬ Config.cacheCapacity - (tight []).cfg.cacheReserved ≤ (tight []).cacheStates.length) :=
  ⟨⟨_, .head _, by decide, by decide, by decide, by decide, by decide⟩,
    _, .head _, by decide, by decide, by decide, by decide⟩

/-- The red triangle with its vertices in another order, its two upper vertices at one height, and a triangle whose two lower
vertices are. -/
theorem witness_CoverageByCenters :
    (let f := redFbi
     let g := { redFbi with vax := 0x40, vbx := 0, vcx := 0 }
     List.Perm [(f.vax, f.vay), (f.vbx, f.vby), (f.vcx, f.vcy)] [(g.vax, g.vay), (g.vbx, g.vby), (g.vcx, g.vcy)]) ∧
    (let f := redFbi
     let v1 : Vertex := ⟨0x40, 0⟩
     let v2 : Vertex := ⟨0, 0⟩
     let v3 : Vertex := ⟨0, 0x40⟩
     List.Perm [⟨f.vax.toInt, f.vay.toInt⟩, ⟨f.vbx.toInt, f.vby.toInt⟩, ⟨f.vcx.toInt, f.vcy.toInt⟩] [v1, v2, v3] ∧
       v1.y ≤ v2.y ∧ v2.y ≤ v3.y) ∧
    (let f := { redFbi with vby := 0x40 }
     let v1 : Vertex := ⟨0, 0⟩
     let v2 : Vertex := ⟨0x40, 0x40⟩
     let v3 : Vertex := ⟨0, 0x40⟩
     List.Perm [⟨f.vax.toInt, f.vay.toInt⟩, ⟨f.vbx.toInt, f.vby.toInt⟩, ⟨f.vcx.toInt, f.vcy.toInt⟩] [v1, v2, v3] ∧
       v1.y ≤ v2.y ∧ v2.y ≤ v3.y) := by decide

theorem witness_BeginTriangleLoadsVertex : tableWf 0 (boot v2).regs = true ∧ (boot v2).cfg.gen = .v2 ∧
    effectiveChips 0 (boot v2).cfg.chipmask ≠ 0#4 := by decide

/-- A V2 state whose next push makes `n + 1` vertices; the triangle pushed third is that of V6, the last vertex from the
registers. -/
def strip (mode : Word) (fbz : Word) (n : Nat) : State :=
  { boot v2 [(0x44, fbz)] [(0x98, mode), (0x99, 0x40800000)] with
    setup := ⟨vertexAt 0 0 0, vertexAt 0 0 0, vertexAt 0 0x40800000 0, n⟩ }

/-- Two vertices, and three that are culled. -/
theorem witness_DrawPushesOrCulls :
    (tableWf 0 (strip 0x30001 0x200 1).regs = true ∧ (strip 0x30001 0x200 1).cfg.gen = .v2 ∧
      effectiveChips 0 (strip 0x30001 0x200 1).cfg.chipmask ≠ 0#4 ∧ (strip 0x30001 0x200 1).pushed.sverts < 3) ∧
    (tableWf 0 (strip 0x30001 0x200 2).regs = true ∧ (strip 0x30001 0x200 2).cfg.gen = .v2 ∧
      effectiveChips 0 (strip 0x30001 0x200 2).cfg.chipmask ≠ 0#4 ∧ 3 ≤ (strip 0x30001 0x200 2).pushed.sverts ∧
      culled (strip 0x30001 0x200 2).cfg.cullOn (strip 0x30001 0x200 2).sSetupMode (strip 0x30001 0x200 2).pushed.sverts
        (strip 0x30001 0x200 2).pushed.divisor = true) := by decide

theorem strip_inv : (strip 0x10001 0x200 2).Inv :=
  ⟨by decide, by decide, by decide, by decide, by decide, by decide, by decide, by decide, by decide, by decide⟩

theorem strip_reserved_inv : (strip 0x10001 0x8200 2).Inv :=
  ⟨by decide, by decide, by decide, by decide, by decide, by decide, by decide, by decide, by decide, by decide⟩

/-- With a draw buffer and without. -/
theorem witness_DrawDrawsTriangle :
    ((strip 0x10001 0x200 2).Inv ∧ (strip 0x10001 0x200 2).cfg.gen = .v2 ∧
      effectiveChips 0 (strip 0x10001 0x200 2).cfg.chipmask ≠ 0#4 ∧ 3 ≤ (strip 0x10001 0x200 2).pushed.sverts ∧
      culled (strip 0x10001 0x200 2).cfg.cullOn (strip 0x10001 0x200 2).sSetupMode (strip 0x10001 0x200 2).pushed.sverts
        (strip 0x10001 0x200 2).pushed.divisor = false ∧
      (strip 0x10001 0x200 2).drawOffset = some 0 ∧ (strip 0x10001 0x200 2).textureReady ∧
      (strip 0x10001 0x200 2).cacheRoom) ∧
    ((strip 0x10001 0x8200 2).Inv ∧ (strip 0x10001 0x8200 2).cfg.gen = .v2 ∧
      effectiveChips 0 (strip 0x10001 0x8200 2).cfg.chipmask ≠ 0#4 ∧ 3 ≤ (strip 0x10001 0x8200 2).pushed.sverts ∧
      culled (strip 0x10001 0x8200 2).cfg.cullOn (strip 0x10001 0x8200 2).sSetupMode
        (strip 0x10001 0x8200 2).pushed.sverts (strip 0x10001 0x8200 2).pushed.divisor = false ∧
      (strip 0x10001 0x8200 2).drawOffset = none) :=
  ⟨⟨strip_inv, rfl, by decide, by decide, by decide, by decide, no_units _ (by decide), .inr (by decide)⟩,
    strip_reserved_inv, rfl, by decide, by decide, by decide, by decide⟩

/-- sSetupMode with no bit, with Wb alone, with the coordinates of TMU 0 alone, and with its W without and with Wb; and the
geometry of R222's example, the vertices (0,0), (4,0) and (0,4) of area 16. -/
theorem witness_UnselectedSetupFieldsKept :
    ((0 : Word).getLsbD 0 = false ∧ (0 : Word).getLsbD 1 = false ∧ (0 : Word).getLsbD 2 = false ∧
      (0 : Word).getLsbD 3 = false ∧ (0 : Word).getLsbD 4 = false ∧ (0 : Word).getLsbD 5 = false ∧
      (0 : Word).getLsbD 6 = false ∧ (0 : Word).getLsbD 7 = false) ∧
    ((0x08 : Word).getLsbD 3 = true ∧ (0x08 : Word).getLsbD 4 = false ∧ (0x08 : Word).getLsbD 6 = false) ∧
    ((0x20 : Word).getLsbD 5 = true ∧ (0x20 : Word).getLsbD 7 = false) ∧
    ((0x10 : Word).getLsbD 4 = true ∧ (0x10 : Word).getLsbD 6 = false ∧ (0x10 : Word).getLsbD 3 = false) ∧
    ((0x18 : Word).getLsbD 4 = true ∧ (0x18 : Word).getLsbD 6 = false ∧ (0x18 : Word).getLsbD 3 = true) ∧
    ((0xFF : Word).getLsbD 6 = true ∧ (0xFF : Word).getLsbD 7 = true ∧
      (⟨0xC0800000, 0, 0xC0800000, 0, 0x3D800000⟩ : SetupGeometry) =
        setupGeometry (vertexAt 0 0 0x437F0000) (vertexAt 0x40800000 0 0x437F0000)
          (vertexAt 0 0x40800000 0x437F0000)) := by decide

/-- In range for `Truncates`: the least values that convert, -2048.0 to 16 bits, -524288.0 to 32 bits with 12 fraction bits, -2^31 to 64 bits with 32, and
the start of R222's example. -/
theorem witness_Truncates :
    trunc32 (mul32 0xC5000000 0x41800000) = some (-((2 ^ (16 - 1) : Nat) : Int)) ∧
    trunc32 (mul32 0xC9000000 0x45800000) = some (-((2 ^ (32 - 1) : Nat) : Int)) ∧
    trunc32 (mul32 0xCF000000 0x4F800000) = some (-((2 ^ (64 - 1) : Nat) : Int)) ∧
    trunc32 (mul32 0x437F0000 0x45800000) = some 0xFF000 := by decide

/-- A pixel at the origin of the front surface. -/
def onePixel (c : Argb) : PixelIn :=
  { base := 0, x := 0, y := 0, scry := 0, iter := c, z := 0, w := 0, tex := ⟨0, ⟨0, 0, 0⟩, ⟨0, 0, 0⟩⟩,
    auxWrite := true, bypass := false }

theorem witness_PixelCountsOneExit : ∃ t, pixel (onePixel ⟨0, 255, 0, 0⟩) (red [(0x44, 0x200)]) = .next t := ⟨_, rfl⟩

/-- Channels at both ends of their range; fbzMode 0x600 (both masks). -/
theorem witness_PlainPixelStoresIteratedColor :
    let s := red [(0x44, 0x600)]
    let p := onePixel ⟨0, 255, 0, 255⟩
    fbzStipple s.fbzMode = false ∧ fbzDepthBuf s.fbzMode = false ∧ fbzChromaKey s.fbzMode = false ∧
      fbzAlphaMask s.fbzMode = false ∧ alphaTestEnable s.alphaMode = false ∧ alphaBlendEnable s.alphaMode = false ∧
      fogEnable s.fogMode = false ∧ s.fbzColorPath = 0 ∧ p.tex.ntmu = 0 ∧ (0 ≤ p.iter.a ∧ p.iter.a ≤ 255) ∧
      (0 ≤ p.iter.r ∧ p.iter.r ≤ 255) ∧ (0 ≤ p.iter.g ∧ p.iter.g ≤ 255) ∧ (0 ≤ p.iter.b ∧ p.iter.b ≤ 255) := by decide

/-- Both ends of the values with a leading one: 15 leading zeros, and none. -/
theorem witness_FloatingDepthEncoding :
    (0x0000FFFF : Word).toNat < 2 ^ 16 ∧
    ((15 : Nat) ≤ 15 ∧ 2 ^ (31 - 15) ≤ (0x00010000 : Word).toNat ∧ (0x00010000 : Word).toNat < 2 ^ (32 - 15)) ∧
    ((0 : Nat) ≤ 15 ∧ 2 ^ (31 - 0) ≤ (0xFFFFFFFF : Word).toNat ∧ (0xFFFFFFFF : Word).toNat < 2 ^ (32 - 0)) ∧
    (0x00010000 : Word).toNat ≤ (0xFFFFFFFF : Word).toNat := by decide

theorem witness_ReductionStaysInFields : (255 : Nat) < 256 ∧ (0 : Nat) < 256 ∧ fbzDithering 0x200 = false := by decide

/-- A reserved format, a reserved buffer, a surface that is NONE, and a write that completes. -/
theorem witness_LfbWriteCompletes :
    lfbWriteFormat (boot v1 [(0x45, 0x3)]).lfbMode ∉ [0, 1, 2, 4, 5, 12, 13, 14, 15] ∧
    (lfbWriteFormat (boot v1 [(0x45, 0x20)]).lfbMode ∈ [0, 1, 2, 4, 5, 12, 13, 14, 15] ∧
      2 ≤ lfbWriteBuffer (boot v1 [(0x45, 0x20)]).lfbMode) ∧
    (lfbWriteBuffer (boot v1 [(0x45, 0x10)]).lfbMode = 1 ∧ State.reset.backOffset = none) ∧
    (boot v1 [(0x45, 0x10)]).backOffset = some 0x96000 := by decide

/-- Rows of 1024 pixels: on the front surface the last word of the view is just in range, on the back surface it is not. -/
def wideLfb (mode : Word) : State :=
  { boot v1 [(0x45, mode)] with surf := ⟨some 0, some 0x96000, none, none, 1024, 0⟩ }

/-- Without an aux surface nothing overlaps. -/
theorem wide_apart (mode : Word) (base : Nat) (l : BitVec 20) : (wideLfb mode).rawApart base l := by
  rintro k - k' - b c a - ⟨hc, -⟩
  cases hc

/-- A raw LFB word at the origin of `boot v1` in mode `mode`. -/
def rawLfb (mode fbz : Word) : State := boot v1 [(0x44, fbz), (0x45, mode)]

/-- The surfaces of `boot v1` lie apart there. -/
theorem raw_apart (mode fbz : Word)
    (h : (mode = 5 ∧ fbz = 0x40000) ∨ (mode = 12 ∧ fbz = 0) ∨ (mode = 15 ∧ fbz = 0)) : (rawLfb mode fbz).rawApart 0 0 := by
  rintro k hk k' hk' b c a ⟨-, hb, -⟩ ⟨hc, -⟩ hp hp'
  have hc : 0x12C000 = c := Option.some.inj hc
  subst hb hc
  have two : ∀ k, k ∈ lfbPixels (lfbWriteFormat (rawLfb mode fbz).lfbMode) → k = 0 ∨ k = 1 := by
    rcases h with ⟨rfl, rfl⟩ | ⟨rfl, rfl⟩ | ⟨rfl, rfl⟩ <;> decide
  rcases two k hk with rfl | rfl <;> rcases two k' hk' with rfl | rfl <;>
    rcases h with ⟨rfl, rfl⟩ | ⟨rfl, rfl⟩ | ⟨rfl, rfl⟩ <;> rcases hp with rfl | rfl <;>
    revert hp' <;> unfold State.pixelByte <;> decide

/-- Colour formats in range and out of range, alpha to alpha planes, depth to the aux surface, depth alone. -/
theorem witness_LfbRawStores :
    ((wideLfb 0).rawApart 0 0x7FFFF ∧ (wideLfb 0).fbram.wf = true ∧ lfbPipeline (wideLfb 0).lfbMode = false ∧
      lfbWriteFormat (wideLfb 0).lfbMode ∈ [0, 1, 2, 4, 5, 12, 13, 14, 15] ∧ lfbWriteBuffer (wideLfb 0).lfbMode < 2 ∧
      (if lfbWriteBuffer (wideLfb 0).lfbMode = 0 then (wideLfb 0).frontOffset else (wideLfb 0).backOffset) = some 0 ∧
      2 * (lfbScreenY (wideLfb 0) (lfbY true 0x7FFFF) * ((wideLfb 0).surf.rowpixels : Int) + lfbX true 0x7FFFF 1) + 2 ≤
        ((2 ^ (wideLfb 0).cfg.fbBits - 0 : Nat) : Int)) ∧
    ((wideLfb 0x10).rawApart 0x96000 0x7FFFF ∧ (wideLfb 0x10).fbram.wf = true ∧
      lfbPipeline (wideLfb 0x10).lfbMode = false ∧ lfbWriteFormat (wideLfb 0x10).lfbMode ∈ [0, 1, 2, 4, 5, 12, 13, 14, 15] ∧
      lfbWriteBuffer (wideLfb 0x10).lfbMode < 2 ∧
      (if lfbWriteBuffer (wideLfb 0x10).lfbMode = 0 then (wideLfb 0x10).frontOffset else (wideLfb 0x10).backOffset) =
        some 0x96000 ∧
      ¬ 2 * (lfbScreenY (wideLfb 0x10) (lfbY true 0x7FFFF) * ((wideLfb 0x10).surf.rowpixels : Int) +
          lfbX true 0x7FFFF 1) + 2 ≤ ((2 ^ (wideLfb 0x10).cfg.fbBits - 0x96000 : Nat) : Int)) ∧
    (∀ mode fbz : Word, (mode = 5 ∧ fbz = 0x40000) ∨ (mode = 12 ∧ fbz = 0) ∨ (mode = 15 ∧ fbz = 0) →
      (rawLfb mode fbz).rawApart 0 0 ∧
      let s := rawLfb mode fbz
      s.fbram.wf = true ∧ lfbPipeline s.lfbMode = false ∧ lfbWriteFormat s.lfbMode = mode.toNat ∧
        lfbWriteBuffer s.lfbMode = 0 ∧ s.frontOffset = some 0 ∧ s.surf.aux = some 0x12C000 ∧
        mode.toNat ∈ (if fbzAlphaPlanes s.fbzMode then [2, 5, 14] else [12, 13, 14, 15])) :=
  ⟨⟨wide_apart _ _ _, by decide⟩, ⟨wide_apart _ _ _, by decide⟩, fun _ _ h => ⟨raw_apart _ _ h, by
    rcases h with ⟨rfl, rfl⟩ | ⟨rfl, rfl⟩ | ⟨rfl, rfl⟩ <;> decide⟩⟩

theorem witness_LfbRoundTrip : fbzDithering 0x200 = false ∧ (31 : Nat) < 32 ∧ (63 : Nat) < 64 ∧ (255 : Nat) < 256 := by
  decide

/-- Both units, at the largest LOD, with the derived state dirty and not. -/
theorem witness_TextureWriteStores :
    (((0 : BitVec 2) = 0 ∧ TmuId.t0 = .t0) ∧ State.reset.cfg.chipmask.getLsbD (chipOf .t0) = true ∧
      (State.reset.cfg.gen = .v2 → tlDirectWrite (State.reset.tLOD .t0) = false) ∧
      (8 : BitVec 4).toNat ≤ 8 ∧
      2 ≤ texBits State.reset.cfg .t0 ∧ (State.reset.tmu .t0).ram.wf = true) ∧
    (let s := State.reset.setTmu .t1 (State.reset.derived .t1)
     ((1 : BitVec 2) = 1 ∧ TmuId.t1 = .t1) ∧ s.cfg.chipmask.getLsbD (chipOf .t1) = true ∧
      (s.cfg.gen = .v2 → tlDirectWrite (s.tLOD .t1) = false) ∧
      (0 : BitVec 4).toNat ≤ 8 ∧
      2 ≤ texBits s.cfg .t1 ∧ (s.tmu .t1).ram.wf = true) := by decide

/-- No unit (2), an absent unit (1), direct writes, and the smallest bad LOD. -/
theorem witness_TextureAccessDropped :
    (((2 : BitVec 2) = 0 → (boot v1).cfg.chipmask.getLsbD 1 = false) ∧
      ((2 : BitVec 2) = 1 → (boot v1).cfg.chipmask.getLsbD 2 = false)) ∧
    (((1 : BitVec 2) = 0 → (boot v1).cfg.chipmask.getLsbD 1 = false) ∧
      ((1 : BitVec 2) = 1 → (boot v1).cfg.chipmask.getLsbD 2 = false)) ∧
    (let s := boot { v2 with chipmask := 3 } [] [(0x1C1, 0x8000000)]
     s.cfg.chipmask.getLsbD (chipOf .t0) = true ∧ s.cfg.gen = .v2 ∧ tlDirectWrite (s.tLOD .t0) = true) ∧
    (State.reset.cfg.chipmask.getLsbD (chipOf .t0) = true ∧
      (State.reset.cfg.gen = .v2 → tlDirectWrite (State.reset.tLOD .t0) = false) ∧
      8 < (9 : BitVec 4).toNat) := by
  decide

/-- The state with one input waiting. -/
def waiting (i : HostInput) : State := { tight [] with inbox := [i] }

theorem witness_StepRunsDecoded : (waiting (.bus ⟨.wr, .full, 0x000110, 7⟩ ⟨true, 1, 2⟩)).fatal = false ∧
    (waiting (.bus ⟨.wr, .full, 0x000110, 7⟩ ⟨true, 1, 2⟩)).swap.pending = false ∧
    (waiting (.bus ⟨.wr, .full, 0x000110, 7⟩ ⟨true, 1, 2⟩)).inbox =
      .bus ⟨.wr, .full, 0x000110, 7⟩ ⟨true, 1, 2⟩ :: [] ∧
    decode (waiting (.bus ⟨.wr, .full, 0x000110, 7⟩ ⟨true, 1, 2⟩)).remap ⟨.wr, .full, 0x000110, 7⟩ =
      .ok (.fbzMode (.write 0 7)) := ⟨rfl, rfl, rfl, rfl⟩

theorem witness_StepOtherwise : ({ boot v1 with fatal := true } : State).fatal = true ∧
    ((boot v1).fatal = false ∧ (boot v1).inbox = []) ∧
    ((boot v1).swap.pending = false ∧
      (waiting (.bus ⟨.wr, .narrow, 0x110, 7⟩ ⟨false, 0, 0⟩)).inbox = [.bus ⟨.wr, .narrow, 0x110, 7⟩ ⟨false, 0, 0⟩] ∧
      (waiting .vblank).inbox = [.vblank]) ∧
    ((waiting (.bus ⟨.wr, .full, 0x84, 7⟩ ⟨false, 0, 0⟩)).inbox = [.bus ⟨.wr, .full, 0x84, 7⟩ ⟨false, 0, 0⟩] ∧
      decode (waiting (.bus ⟨.wr, .full, 0x84, 7⟩ ⟨false, 0, 0⟩)).remap ⟨.wr, .full, 0x84, 7⟩ =
        .error (.reserved 0x21 (.write 0 7))) ∧
    ((waiting (.bus ⟨.rd, .full, 0x84, 0⟩ ⟨false, 0, 0⟩)).inbox = [.bus ⟨.rd, .full, 0x84, 0⟩ ⟨false, 0, 0⟩] ∧
      decode (waiting (.bus ⟨.rd, .full, 0x84, 0⟩ ⟨false, 0, 0⟩)).remap ⟨.rd, .full, 0x84, 0⟩ =
        .error (.reserved 0x21 .read)) :=
  ⟨by decide, by decide, by decide, ⟨rfl, rfl⟩, rfl, rfl⟩

theorem waiting_inv : (waiting (.bus ⟨.wr, .full, 0x000110, 7⟩ ⟨false, 0, 0⟩)).Inv :=
  ⟨by decide, by decide, by decide, by decide, by decide, by decide, by decide, by decide, by decide, by decide⟩

theorem witness_StepKeepsInvariant : ∃ t, (waiting (.bus ⟨.wr, .full, 0x000110, 7⟩ ⟨false, 0, 0⟩)).Inv ∧
    step (waiting (.bus ⟨.wr, .full, 0x000110, 7⟩ ⟨false, 0, 0⟩)) = .next t := ⟨_, waiting_inv, rfl⟩

/-- One below each minimum, and at both minima. -/
theorem witness_ConstructionGivesResetState :
    (let p := { Params.standard with fbBits := 19 }
     p.fbBits < p.fbMinBits) ∧
    (let p := { Params.standard with fbBits := 20, texBits0 := 19 }
     p.fbMinBits ≤ p.fbBits ∧ p.chipmask.getLsbD 1 = true ∧ p.texBits0 < p.texMinBits) ∧
    (let p := { Params.standard with fbBits := 20, texBits0 := 20, texBits1 := 19 }
     p.fbMinBits ≤ p.fbBits ∧ (p.chipmask.getLsbD 1 = true → p.texMinBits ≤ p.texBits0) ∧
       p.chipmask.getLsbD 2 = true ∧ p.texBits1 < p.texMinBits) ∧
    (let p := { Params.standard with fbBits := 20, texBits0 := 20, texBits1 := 20 }
     p.fbLargeEnough = true ∧ p.texLargeEnough = true) := by decide

end Sys2Proof.Tests
end

section
/-! The next input of a step (00_scope.md R18, R19; 60_exceptions.md R410): which request it runs, and in which state. -/

namespace Sys2Proof.Machine

/-- Outside the fatal state and the swap hold, a step takes the next input. -/
theorem step_eq_inputStep {s : State} (hfatal : s.fatal = false) (hpending : s.swap.pending = false) :
    step s = inputStep s := by
  simp [step, hfatal, hpending]

/-- A bus transaction that comes next is run as its request, with its display values (log entry 13). -/
theorem inputStep_bus {s : State} {q : BusRequest} {display : DisplaySample} {rest : List HostInput}
    (hinbox : s.inbox = .bus q display :: rest) :
    inputStep s = runRequest q { s with inbox := rest, display := display } := by
  simp [inputStep, hinbox, takeInput]

/-- A request that decodes to a transaction runs it (30_encoding.md R130). -/
theorem runRequest_of_decode {s : State} {q : BusRequest} {i : Instr} (hdecode : decode s.remap q = .ok i) :
    runRequest q s = exec i s := by
  simp [runRequest, hdecode]

/-- The alternate map's state (30_encoding.md R133) lies in the registers: inputs and display values do not change it. -/
@[simp] theorem remap_with_inbox_display (s : State) (inbox : List HostInput) (display : DisplaySample) :
    State.remap { s with inbox := inbox, display := display } = s.remap := rfl

/-- Settles O56: the step takes the transaction, and its request decodes the same once the input is removed. -/
theorem stepRunsDecoded : Obligations.StepRunsDecoded := by
  intro s q display rest i hfatal hpending hinbox hdecode
  have hdecode' : decode (State.remap { s with inbox := rest, display := display }) q = .ok i := by
    rwa [remap_with_inbox_display]
  calc step s = inputStep s := step_eq_inputStep hfatal hpending
    _ = runRequest q { s with inbox := rest, display := display } := inputStep_bus hinbox
    _ = exec i { s with inbox := rest, display := display } := runRequest_of_decode hdecode'

end Sys2Proof.Machine
end

section
/-! The access flags of both generations against the register table (10_state.md R30). -/

namespace Sys2Proof.Machine

/-- The row of the register table that holds a register number (10_state.md R30). -/
def accessRow (n : RegNum) : Option AccessRange :=
  accessRanges.find? fun r => decide (r.first ≤ n.toNat) && decide (n.toNat ≤ r.last)

/-- The V1 flags of the 256 register numbers are the V1 columns of the table. -/
theorem accessFlags_v1_eq_row :
    ∀ n : RegNum, (accessFlags .v1 n).r = (accessRow n).any (·.r1) ∧ (accessFlags .v1 n).w = (accessRow n).any (·.w1) := by
  decide

/-- The V2 flags of the 256 register numbers are the V2 columns of the table (log entry 9). -/
theorem accessFlags_v2_eq_row :
    ∀ n : RegNum, (accessFlags .v2 n).r = (accessRow n).any (·.r2) ∧ (accessFlags .v2 n).w = (accessRow n).any (·.w2) := by
  decide

/-- Settles O5: the two columns of the table, one generation each. -/
theorem accessFlagsMatchTable : Obligations.AccessFlagsMatchTable := by
  intro n
  obtain ⟨hr1, hw1⟩ := accessFlags_v1_eq_row n
  obtain ⟨hr2, hw2⟩ := accessFlags_v2_eq_row n
  exact ⟨hr1, hw1, hr2, hw2⟩

end Sys2Proof.Machine
end

section
/-! The invariant across a step: the changes of units, layout and tables, the handlers of the registers, and the
transactions. A register write stores first, so what the invariant says of derived state has to be restored by the
handlers of the registers it is derived from: those are the only ones that look at `StoredInv`. -/

namespace Sys2Proof.Machine

/-! ### Changes of units -/

/-- A change of a unit that keeps its memories and coefficients sound and its derived state either current or dirty. -/
structure KeepsTmu (f : Tmu → Tmu) : Prop where
  sound : ∀ b t, t.sound b = true → (f t).sound b = true
  derived : ∀ n tm tl td base t, t = deriveTmu n tm tl td base t →
    (f t).dirty = true ∨ f t = deriveTmu n tm tl td base (f t)
  dirty : ∀ t, t.dirty = true → (f t).dirty = true

/-- The derived-state part of the invariant as a disjunction (10_state.md R60). -/
theorem derivedSound_iff {s : State} {u : TmuId} :
    s.derivedSound u = true ↔ (s.tmu u).dirty = true ∨ s.tmu u = s.derived u := by
  simp [State.derivedSound]

/-- A dirty unit may hold any derived state. -/
theorem derivedSound_of_dirty {s : State} {u : TmuId} (h : (s.tmu u).dirty = true) : s.derivedSound u = true :=
  derivedSound_iff.2 (.inl h)

/-- A change of the iterators alone keeps a unit (10_state.md R62). -/
theorem KeepsTmu.of_iterators {f : Tmu → Tmu} (hf : ∀ t, ∃ a b c, f t = { t with s := a, t := b, w := c }) :
    KeepsTmu f where
  sound b t h := by
    obtain ⟨x, y, z, e⟩ := hf t
    rw [e]; exact h
  derived n tm tl td base t h := by
    obtain ⟨x, y, z, e⟩ := hf t
    rw [e]; exact .inr (derive_kept h x y z _ _ _ _ _)
  dirty t h := by
    obtain ⟨x, y, z, e⟩ := hf t
    rw [e]; exact h

/-- A change that leaves the unit dirty keeps it when it keeps it sound. -/
theorem KeepsTmu.of_dirty {f : Tmu → Tmu} (hs : ∀ b t, t.sound b = true → (f t).sound b = true)
    (hd : ∀ t, (f t).dirty = true) : KeepsTmu f where
  sound := hs
  derived _ _ _ _ _ t _ := .inl (hd t)
  dirty t _ := hd t

theorem updateTmu_inv {s : State} (h : s.Inv) {f : Tmu → Tmu} (hf : KeepsTmu f) (chips : ChipSet) (u : TmuId) :
    (updateTmu chips f u s).Inv := by
  unfold updateTmu
  split
  · refine h.setTmu (hf.sound _ _ (h.tmuSound u)) ?_
    have hu : (f (s.tmu u)).dirty = true ∨ f (s.tmu u) = deriveTmu (2 ^ texBits s.cfg u) (s.textureMode u) (s.tLOD u)
        (s.tDetail u) (s.texBase u) (f (s.tmu u)) := by
      rcases derivedSound_iff.1 (h.derivedSound u) with hd | hd
      · exact .inl (hf.dirty _ hd)
      · exact hf.derived _ _ _ _ _ _ hd
    rcases hu with hd | hd
    · exact derivedSound_of_dirty (by rwa [setTmu_tmu_self])
    · exact derivedSound_setTmu hd
  · exact h

theorem updateTmus_inv {s : State} (h : s.Inv) {f : Tmu → Tmu} (hf : KeepsTmu f) (chips : ChipSet) :
    (updateTmus chips f s).Inv :=
  updateTmu_inv (updateTmu_inv h hf chips .t0) hf chips .t1

theorem updateFbi_inv {s : State} (h : s.Inv) (chips : ChipSet) (f : FbiIter → FbiIter) : (updateFbi chips f s).Inv := by
  rw [updateFbi_eq]
  exact h.other _ s.setup s.stats s.fatal s.log s.inbox s.display s.readData s.hostEvents s.draws

/-- A dirty NCC table is sound once its coefficients are canonical and inside their ranges (10_state.md R63). -/
theorem NccTable.sound_of_dirty {n : NccTable} (hd : n.dirty = true)
    (hy : tableWf 0 n.y = true ∧ tableBelow 16 n.y = true)
    (hi : tableWf ⟨0, 0, 0⟩ n.i = true ∧ tableBelow 4 n.i = true)
    (hq : tableWf ⟨0, 0, 0⟩ n.q = true ∧ tableBelow 4 n.q = true) : n.sound = true := by
  simp only [NccTable.sound, Bool.and_eq_true, Bool.or_eq_true]
  exact ⟨⟨⟨⟨⟨⟨hy.1, hy.2⟩, hi.1⟩, hi.2⟩, hq.1⟩, hq.2⟩, .inl hd⟩

/-- A word of an NCC table keeps the table's coefficients canonical and inside their ranges (10_state.md R56). -/
theorem nccCoefficient_sound {k : Nat} (hk : k < 12) {d : Word} {n : NccTable} (h : n.sound = true) :
    (nccCoefficient k d n).sound = true := by
  simp only [NccTable.sound, Bool.and_eq_true] at h
  obtain ⟨⟨⟨⟨⟨⟨hyw, hyb⟩, hiw⟩, hib⟩, hqw⟩, hqb⟩, -⟩ := h
  unfold nccCoefficient
  split
  · next hy =>
    refine NccTable.sound_of_dirty rfl ⟨?_, ?_⟩ ⟨hiw, hib⟩ ⟨hqw, hqb⟩
    · exact tableWf_writeTable (tableWf_writeTable (tableWf_writeTable (tableWf_writeTable hyw)))
    · exact tableBelow_writeTable (tableBelow_writeTable (tableBelow_writeTable (tableBelow_writeTable hyb (by omega))
        (by omega)) (by omega)) (by omega)
  · split
    · exact NccTable.sound_of_dirty rfl ⟨hyw, hyb⟩ ⟨tableWf_writeTable hiw, tableBelow_writeTable hib (by omega)⟩
        ⟨hqw, hqb⟩
    · exact NccTable.sound_of_dirty rfl ⟨hyw, hyb⟩ ⟨hiw, hib⟩
        ⟨tableWf_writeTable hqw, tableBelow_writeTable hqb (by omega)⟩

theorem paletteWriteTmu_sound (k : Nat) (d : Word) {b : Nat} {t : Tmu} (h : t.sound b = true) :
    (paletteWriteTmu k d t).sound b = true := by
  simp only [Tmu.sound, Bool.and_eq_true] at h ⊢
  obtain ⟨⟨⟨⟨⟨h0, h1⟩, hpw⟩, hpb⟩, hrw⟩, hrb⟩ := h
  have hlt : paletteIndex k d < 256 := by
    have : fieldNat d 24 7 < 2 ^ 7 := (field d 24 7).isLt
    unfold paletteIndex
    omega
  exact ⟨⟨⟨⟨⟨h0, h1⟩, tableWf_writeTable hpw⟩, tableBelow_writeTable hpb hlt⟩, hrw⟩, hrb⟩

/-- A write to the NCC registers keeps a unit (40_register_access.md R179). -/
theorem nccWriteTmu_keeps (table : Bool) {k : Nat} (hk : k < 12) (d : Word) : KeepsTmu (nccWriteTmu table k d) := by
  refine .of_dirty (fun b t h => ?_) (nccWriteTmu_dirty table k d)
  have hw : (if isPaletteWrite table k d then paletteWriteTmu k d t
      else t.setNcc table (nccCoefficient k d (t.ncc table))).sound b = true := by
    split
    · exact paletteWriteTmu_sound k d h
    · exact setNcc_sound h (nccCoefficient_sound hk (ncc_sound h table))
  exact hw

/-! ### A store to a register that the invariant derives state from -/

/-- A handler that completes a register store: it may change units, layout and buffer selection, and the invariant holds
once it leaves them right. -/
theorem StoredInv.complete {s t : State} {chips : ChipSet} {n : RegNum} (h : s.Inv) (k : StoredInv s chips n t)
    {t0 t1 : Tmu} {f : Surfaces} {w : SwapState} (h0 : t0.sound s.cfg.texBits0 = true)
    (h1 : t1.sound s.cfg.texBits1 = true)
    (hd : ∀ u, State.derivedSound { t with tmu0 := t0, tmu1 := t1, surf := f, swap := w } u = true)
    (hl : State.layoutSound { t with surf := f } = true)
    (hw : State.swapSound { t with surf := f, swap := w } = true) :
    State.Inv { t with tmu0 := t0, tmu1 := t1, surf := f, swap := w } := by
  have hcfg : t.cfg = s.cfg := by rw [k.frame]
  have hcache : t.cacheSound = true := by rw [k.frame]; exact h.cache
  exact ⟨by rw [hcfg]; exact h.params, k.tables, by rw [hcfg]; exact h0, by rw [hcfg]; exact h1, k.present, hd .t0, hd .t1,
    hl, hcache, hw⟩

/-- Whether a unit holds its derived state depends on the parameters, the register file and the unit (10_state.md R60). -/
theorem derivedSound_congr {s t : State} {u : TmuId} (hcfg : t.cfg = s.cfg) (hregs : t.regs = s.regs)
    (htmu : t.tmu u = s.tmu u) : t.derivedSound u = s.derivedSound u := by
  have hderived : t.derived u = s.derived u := by
    simp only [State.derived, State.textureMode, State.tLOD, State.tDetail, State.texBase, State.texBaseAddr,
      State.tmuReg, State.slot, hcfg, hregs, htmu]
  simp only [State.derivedSound, htmu, hderived]

/-- A unit after a change of the units of a chip set. -/
theorem updateTmus_tmu (chips : ChipSet) (f : Tmu → Tmu) (s : State) (u : TmuId) :
    (updateTmus chips f s).tmu u = if bit chips (chipOf u) then f (s.tmu u) else s.tmu u := by
  rw [updateTmus_eq]
  cases u <;> rfl

/-- After a store to a TMU register the units of the chip set are marked dirty, and the others hold their derived state
still (40_register_access.md R178). -/
theorem StoredInv.marked {s t : State} {chips : ChipSet} {n : RegNum} (h : s.Inv) (k : StoredInv s chips n t)
    (hn : n ≠ 0x85 ∧ n ≠ 0x86 ∧ n ≠ 0x87 ∧ n ≠ 0x91) : (updateTmus chips markDirty t).Inv := by
  obtain ⟨h85, h86, h87, h91⟩ := hn
  have hcfg : t.cfg = s.cfg := by rw [k.frame]
  have htmu : ∀ u, (t.tmu u).sound (texBits s.cfg u) = true := fun u => by
    rw [k.frame]; exact h.tmuSound u
  have hw : t.swapSound = true := by rw [k.frame]; exact h.swap
  have hs : ∀ u, ((updateTmus chips markDirty t).tmu u).sound (texBits s.cfg u) = true := fun u => by
    rw [updateTmus_tmu]
    split <;> exact htmu u
  have hd : ∀ u, (updateTmus chips markDirty t).derivedSound u = true := fun u => by
    cases hb : bit chips (chipOf u) with
    | true => exact derivedSound_of_dirty (by simp [updateTmus_tmu, hb, markDirty])
    | false =>
      have hu : (updateTmus chips markDirty t).tmu u = t.tmu u := by simp [updateTmus_tmu, hb]
      rw [derivedSound_congr (by rw [updateTmus_eq]) (by rw [updateTmus_eq]) hu]
      exact k.derived u (.inl hb)
  rw [updateTmus_eq] at hs hd ⊢
  exact k.complete h (f := t.surf) (w := t.swap) (hs .t0) (hs .t1) hd (k.layout h85 h86 h87 h91) hw

/-- The swap part of the invariant, clause by clause. -/
theorem swapSound_iff {s : State} : s.swapSound = true ↔
    s.swap.vblankCount ≤ 250 ∧ (s.swap.pending = true → s.cfg.gen = .v1) ∧
      (s.surf.rgb2 = none → s.swap.front ≠ 2 ∧ s.swap.back ≠ 2) := by
  cases hp : s.swap.pending <;> cases hr : s.surf.rgb2 <;> simp [State.swapSound, hp, hr, and_assoc]

/-- The buffer selection after a layout change names no missing surface (40_register_access.md R176). -/
theorem relayout_swapSound {s : State} (h : s.swapSound = true) : (relayout s).swapSound = true := by
  obtain ⟨hcount, hpending, -⟩ := swapSound_iff.1 h
  rw [relayout_eq, swapSound_iff]
  dsimp only
  split
  · exact ⟨hcount, hpending, fun _ => (by decide : (0 : Fin 3) ≠ 2 ∧ (1 : Fin 3) ≠ 2)⟩
  · next hfound =>
    refine ⟨hcount, hpending, fun hnone => ⟨fun hf => hfound (.inl ?_), fun hb => hfound (.inr ?_)⟩⟩
    · rw [hf]; exact hnone
    · rw [hb]; exact hnone

/-- A memory-layout write: the layout is that of the registers the store left (40_register_access.md R176). -/
theorem StoredInv.relaid {s t : State} {chips : ChipSet} {n : RegNum} (h : s.Inv) (k : StoredInv s chips n t)
    (hn : n.toNat < 0xC0) : (relayout t).Inv := by
  have h0 : t.tmu0.sound s.cfg.texBits0 = true := by rw [k.frame]; exact h.tmu0
  have h1 : t.tmu1.sound s.cfg.texBits1 = true := by rw [k.frame]; exact h.tmu1
  have hw : (relayout t).swapSound = true := relayout_swapSound (by rw [k.frame]; exact h.swap)
  have hd : ∀ u, (relayout t).derivedSound u = true := fun u => by
    rw [derivedSound_congr (s := t) (by rw [relayout_eq]) (by rw [relayout_eq]) (by rw [relayout_eq]; cases u <;> rfl)]
    exact k.derived u (.inr (.inl hn))
  rw [relayout_eq] at hw hd ⊢
  exact k.complete h h0 h1 hd (decide_eq_true rfl) hw

end Sys2Proof.Machine
end

section
/-! Each handler and each access path keeps the invariant. -/

namespace Sys2Proof.Machine

/-! ### Handlers -/

/-- A handler keeps the invariant by itself, whatever was stored. -/
def HandlerKeeps (handler : ChipSet → Word → State → Out) : Prop :=
  ∀ chips data s t, s.Inv → handler chips data s = .next t → t.Inv

/-- The store to register `n` and the handler after it keep the invariant together (40_register_access.md R174). -/
def WriteKeeps (n : RegNum) (handler : ChipSet → Word → State → Out) : Prop :=
  ∀ chips data s t, s.Inv → (∀ c, bit chips c = true → bit s.cfg.chipmask c = true) →
    handler chips data (storeChips chips n data s) = .next t → t.Inv

/-- A handler that always completes keeps the invariant when its next state does. -/
theorem HandlerKeeps.of_next {f : ChipSet → Word → State → State} (hf : ∀ chips data s, s.Inv → (f chips data s).Inv) :
    HandlerKeeps fun chips data s => .next (f chips data s) := by
  intro chips data s t h ht
  cases ht
  exact hf chips data s h

theorem storeOnly_keeps : HandlerKeeps storeOnly := .of_next fun _ _ _ h => h

theorem fbiParam_keeps (put : Word → FbiIter → FbiIter) : HandlerKeeps (fbiParam put) :=
  .of_next fun chips data _ h => updateFbi_inv h chips (put data)

theorem tmuParam_keeps {put : Word → Tmu → Tmu} (hp : ∀ d t, ∃ a b c, put d t = { t with s := a, t := b, w := c }) :
    HandlerKeeps (tmuParam put) :=
  .of_next fun chips data _ h => updateTmus_inv h (.of_iterators (hp data)) chips

theorem bothParam_keeps {putFbi : Word → FbiIter → FbiIter} {putTmu : Word → Tmu → Tmu}
    (hp : ∀ d t, ∃ a b c, putTmu d t = { t with s := a, t := b, w := c }) : HandlerKeeps (bothParam putFbi putTmu) :=
  .of_next fun chips data _ h => updateTmus_inv (updateFbi_inv h chips (putFbi data)) (.of_iterators (hp data)) chips

theorem nccWrite_keeps (table : Bool) {k : Nat} (hk : k < 12) : HandlerKeeps (nccWrite table k) :=
  .of_next fun chips data _ h => updateTmus_inv h (nccWriteTmu_keeps table hk data) chips

theorem timingWrite_keeps (n : RegNum) : HandlerKeeps (timingWrite n) :=
  .of_next fun _ _ s h => h.other s.fbi s.setup s.stats s.fatal s.log s.inbox s.display s.readData _ s.draws

theorem unpackArgb_keeps : HandlerKeeps unpackArgb :=
  .of_next fun _ _ _ h => State.Inv.setFbiReg (State.Inv.setFbiReg (State.Inv.setFbiReg (State.Inv.setFbiReg h
    (by decide)) (by decide)) (by decide)) (by decide)

/-- A fog register names two of the 64 entries (10_state.md R43). -/
theorem fogTableWrite_keeps {i : Nat} (hi : i < 32) : HandlerKeeps (fogTableWrite i) := by
  refine .of_next fun _ _ s h =>
    ⟨h.params, ?_, h.tmu0, h.tmu1, h.present, h.derived0, h.derived1, h.layout, h.cache, h.swap⟩
  have htables := h.tables
  simp only [State.tablesSound, Bool.and_eq_true] at htables ⊢
  obtain ⟨⟨⟨⟨⟨⟨hregs, hbw⟩, hbb⟩, hdw⟩, hdb⟩, hramWf⟩, hramBelow⟩ := htables
  have wf {m : Table Byte} {v w : Byte} (hm : tableWf 0 m = true) :
      tableWf 0 (writeTable 0 (writeTable 0 m (2 * i) v) (2 * i + 1) w) = true :=
    tableWf_writeTable (tableWf_writeTable hm)
  have below {m : Table Byte} {v w : Byte} (hm : tableBelow 64 m = true) :
      tableBelow 64 (writeTable 0 (writeTable 0 m (2 * i) v) (2 * i + 1) w) = true :=
    tableBelow_writeTable (tableBelow_writeTable hm (by omega)) (by omega)
  exact ⟨⟨⟨⟨⟨⟨hregs, wf hbw⟩, below hbb⟩, wf hdw⟩, below hdb⟩, hramWf⟩, hramBelow⟩

theorem nopWrite_keeps : HandlerKeeps nopWrite := by
  refine .of_next fun _ data s h => ?_
  have hp : (if bit data 0 then clearPixelStats s else s).Inv := by
    split
    · exact stats_inv h _
    · exact h
  split
  · exact stats_inv hp _
  · exact hp

/-- Only V1 starts the swap hold (44_commands.md R370). -/
theorem swapWrite_keeps : HandlerKeeps swapWrite := by
  intro chips data s t h ht
  obtain ⟨hcount, hpending, htwo⟩ := swapSound_iff.1 h.swap
  unfold swapWrite at ht
  dsimp only at ht
  split at ht
  · cases ht
    exact swapBuffers_inv (h.swapState (swapSound_iff.2 ⟨hcount, hpending, htwo⟩))
  · next hv1 =>
    cases ht
    refine h.swapState (swapSound_iff.2 ⟨hcount, fun _ => ?_, htwo⟩)
    cases hg : s.cfg.gen with
    | v1 => rfl
    | v2 => simp [hg] at hv1

theorem triangleWrite_keeps : HandlerKeeps triangleWrite := fun _ _ s _ h ht =>
  triangle_inv (h.other _ s.setup s.stats s.fatal s.log s.inbox s.display s.readData s.hostEvents s.draws) ht

theorem beginTriangle_inv {s : State} (h : s.Inv) : (beginTriangle s).Inv :=
  h.other s.fbi _ s.stats s.fatal s.log s.inbox s.display s.readData s.hostEvents s.draws

/-! ### Stores -/

/-- The registers that the layout (10_state.md R69) and the derived state of a unit (R60) are functions of, and the
texture bases beside them. -/
def derivationRegs : List RegNum := [0x85, 0x86, 0x87, 0x91, 0xC0, 0xC1, 0xC2, 0xC3, 0xC4, 0xC5, 0xC6]

theorem not_mem_derivationRegs : ∀ n : RegNum, n ∉ derivationRegs →
    (n.toNat < 0xC0 ∨ 0xC7 ≤ n.toNat) ∧ n ≠ 0x85 ∧ n ≠ 0x86 ∧ n ≠ 0x87 ∧ n ≠ 0x91 := by
  decide

/-- A store to any other register keeps the invariant, so its handler only has to keep it too. -/
theorem WriteKeeps.of_handler {n : RegNum} {handler : ChipSet → Word → State → Out} (hn : n ∉ derivationRegs)
    (hh : HandlerKeeps handler) : WriteKeeps n handler := by
  intro chips data s t h hs ht
  obtain ⟨hrange, hinit⟩ := not_mem_derivationRegs n hn
  exact hh _ _ _ _ ((h.stored hs).inv h (fun _ => .inr hrange) hinit) ht

/-- A TMU register write (40_register_access.md R178). -/
theorem tmuRegWrite_keeps {n : RegNum} (hn : n ≠ 0x85 ∧ n ≠ 0x86 ∧ n ≠ 0x87 ∧ n ≠ 0x91) : WriteKeeps n tmuRegWrite := by
  intro chips data s t h hs ht
  cases ht
  exact (h.stored hs).marked h hn

/-- A memory-layout write (40_register_access.md R176). -/
theorem initWrite_keeps {n : RegNum} (hn : n.toNat < 0xC0) : WriteKeeps n initWrite := by
  intro chips data s t h hs ht
  cases ht
  exact (h.stored hs).relaid h hn

/-! ### The access paths -/

/-- The effective chip set names present chips only (30_encoding.md R131). -/
theorem effectiveChips_present (chipsel mask : ChipSet) (c : Nat) (h : bit (effectiveChips chipsel mask) c = true) :
    bit mask c = true := by
  simp only [effectiveChips, bit, BitVec.getLsbD_and, Bool.and_eq_true] at h
  exact h.2

theorem answerRead_inv {v : Word} {s t : State} (h : s.Inv) (ht : answerRead v s = .next t) : t.Inv := by
  cases ht
  exact h.other s.fbi s.setup s.stats s.fatal s.log s.inbox s.display v s.hostEvents s.draws

theorem dropWrite_inv {e : LogEvent} {s t : State} (h : s.Inv) (ht : dropWrite e s = .next t) : t.Inv := by
  cases ht
  exact log_inv h _

theorem rejectRead_inv {e : LogEvent} {s t : State} (h : s.Inv) (ht : rejectRead e s = .next t) : t.Inv :=
  answerRead_inv (log_inv h (s.log ++ [e])) ht

theorem regRead_inv {n : RegNum} {value : State → Word} {s t : State} (h : s.Inv) (ht : regRead n value s = .next t) :
    t.Inv := by
  unfold regRead at ht
  split at ht
  · exact answerRead_inv h ht
  · exact rejectRead_inv h ht

theorem regWrite_inv {n : RegNum} {chipsel : ChipSet} {data : Word} {handler : ChipSet → Word → State → Out}
    {s t : State} (hk : WriteKeeps n handler) (h : s.Inv) (ht : regWrite n chipsel data handler s = .next t) : t.Inv := by
  rcases regWrite_cases n chipsel data handler s with
    ⟨-, k⟩ | ⟨-, ⟨-, k⟩ | ⟨-, ⟨-, k⟩ | ⟨-, ⟨-, -, k⟩ | ⟨-, k⟩⟩⟩⟩ <;> rw [k] at ht
  · cases ht
  · exact dropWrite_inv h ht
  · exact dropWrite_inv h ht
  · exact dropWrite_inv h ht
  · exact hk _ _ _ _ h (effectiveChips_present chipsel s.cfg.chipmask) ht

theorem storedReg_inv {n : RegNum} {handler : ChipSet → Word → State → Out} {a : RegAccess} {s t : State}
    (hk : WriteKeeps n handler) (h : s.Inv) (ht : storedReg n handler a s = .next t) : t.Inv := by
  cases a with
  | read => exact regRead_inv (value := fun s => s.fbiReg n) h ht
  | write chipsel data => exact regWrite_inv hk h ht

theorem computedReg_inv {n : RegNum} {value : State → Word} {a : RegAccess} {s t : State} (hn : n ∉ derivationRegs)
    (h : s.Inv) (ht : computedReg n value a s = .next t) : t.Inv := by
  cases a with
  | read => exact regRead_inv h ht
  | write chipsel data => exact regWrite_inv (.of_handler hn storeOnly_keeps) h ht

end Sys2Proof.Machine
end

section
/-! Every transaction that the decoder answers, and with it every step, keeps the invariant. -/

namespace Sys2Proof.Machine

/-! ### Transactions -/

/-- No layout or texture register lies in the blitter block (10_state.md R30). -/
theorem blitter_not_mem_derivationRegs : ∀ n : RegNum, n.extractLsb' 4 4 = 0xB#4 → n ∉ derivationRegs := by
  decide

/-- An LFB write keeps the invariant: each of its pixels does (44_commands.md R380). -/
theorem execLfbWr_inv {l : BitVec 20} {data : Word} {s t : State} (h : s.Inv) (ht : execLfbWr l data s = .next t) :
    t.Inv := by
  unfold execLfbWr at ht
  dsimp only at ht
  split at ht
  · exact dropWrite_inv h ht
  · split at ht
    · exact dropWrite_inv h ht
    · split at ht
      · cases ht; exact h
      · exact foldOut_inv (fun _ _ _ hs hp => lfbWritePixel_inv hs hp) h ht

/-- A well-formed transaction keeps the invariant: its register's handler does, or its access to memory. -/
theorem exec_inv {i : Instr} {s t : State} (hi : i.wellFormed = true) (h : s.Inv) (ht : exec i s = .next t) : t.Inv := by
  cases i
  case vertexAx | vertexAy | vertexBx | vertexBy | vertexCx | vertexCy | startR | startG | startB | startZ |
      startA | dRdX | dGdX | dBdX | dZdX | dAdX | dRdY | dGdY | dBdY | dZdY | dAdY | fvertexAx | fvertexAy |
      fvertexBx | fvertexBy | fvertexCx | fvertexCy | fstartR | fstartG | fstartB | fstartZ | fstartA | fdRdX |
      fdGdX | fdBdX | fdZdX | fdAdX | fdRdY | fdGdY | fdBdY | fdZdY | fdAdY =>
    exact storedReg_inv (.of_handler (by decide) (fbiParam_keeps _)) h ht
  case startS | startT | dSdX | dTdX | dSdY | dTdY | fstartS | fstartT | fdSdX | fdTdX | fdSdY | fdTdY =>
    exact storedReg_inv (.of_handler (by decide) (tmuParam_keeps fun _ _ => ⟨_, _, _, rfl⟩)) h ht
  case startW | dWdX | dWdY | fstartW | fdWdX | fdWdY =>
    exact storedReg_inv (.of_handler (by decide) (bothParam_keeps fun _ _ => ⟨_, _, _, rfl⟩)) h ht
  case intrCtrl | fbzColorPath | fogMode | alphaMode | fbzMode | lfbMode | clipLeftRight | clipLowYHighY |
      fogColor | zaColor | chromaKey | chromaRange | userIntrCMD | stipple | color0 | color1 | cmdFifoBaseAddr |
      cmdFifoBump | cmdFifoRdPtr | cmdFifoAMin | cmdFifoAMax | cmdFifoDepth | cmdFifoHoles | fbiInit4 | fbiInit0 |
      clutData | dacData | maxRgbDelta | borderColor | sSetupMode | sVx | sVy | sRed | sGreen | sBlue | sAlpha |
      sVz | sWb | sWtmu0 | sS_W0 | sT_W0 | sWtmu1 | sS_Wtmu1 | sT_Wtmu1 =>
    exact storedReg_inv (.of_handler (by decide) storeOnly_keeps) h ht
  case status | fbiPixelsIn | fbiChromaFail | fbiZfuncFail | fbiAfuncFail | fbiPixelsOut | vRetrace | hvRetrace |
      fbiSwapHistory | fbiTrianglesOut =>
    exact computedReg_inv (by decide) h ht
  case backPorch | videoDimensions | hSync | vSync | hBorder | vBorder =>
    exact storedReg_inv (.of_handler (by decide) (timingWrite_keeps _)) h ht
  case fogTable0 | fogTable1 | fogTable2 | fogTable3 | fogTable4 | fogTable5 | fogTable6 | fogTable7 | fogTable8 |
      fogTable9 | fogTable10 | fogTable11 | fogTable12 | fogTable13 | fogTable14 | fogTable15 | fogTable16 |
      fogTable17 | fogTable18 | fogTable19 | fogTable20 | fogTable21 | fogTable22 | fogTable23 | fogTable24 |
      fogTable25 | fogTable26 | fogTable27 | fogTable28 | fogTable29 | fogTable30 | fogTable31 =>
    exact storedReg_inv (.of_handler (by decide) (fogTableWrite_keeps (by decide))) h ht
  case nccTable0_0 | nccTable0_1 | nccTable0_2 | nccTable0_3 | nccTable0_4 | nccTable0_5 | nccTable0_6 |
      nccTable0_7 | nccTable0_8 | nccTable0_9 | nccTable0_10 | nccTable0_11 | nccTable1_0 | nccTable1_1 |
      nccTable1_2 | nccTable1_3 | nccTable1_4 | nccTable1_5 | nccTable1_6 | nccTable1_7 | nccTable1_8 |
      nccTable1_9 | nccTable1_10 | nccTable1_11 =>
    exact storedReg_inv (.of_handler (by decide) (nccWrite_keeps _ (by decide))) h ht
  case textureMode | tLOD | tDetail | texBaseAddr | texBaseAddr_1 | texBaseAddr_2 | texBaseAddr_3_8 | trexInit0 |
      trexInit1 =>
    exact storedReg_inv (tmuRegWrite_keeps (by decide)) h ht
  case fbiInit1 | fbiInit2 | fbiInit3 | fbiInit5 | fbiInit6 | fbiInit7 =>
    exact storedReg_inv (initWrite_keeps (by decide)) h ht
  case triangleCMD | ftriangleCMD =>
    exact storedReg_inv (.of_handler (by decide) triangleWrite_keeps) h ht
  case nopCMD => exact storedReg_inv (.of_handler (by decide) nopWrite_keeps) h ht
  case swapbufferCMD => exact storedReg_inv (.of_handler (by decide) swapWrite_keeps) h ht
  case sARGB => exact storedReg_inv (.of_handler (by decide) unpackArgb_keeps) h ht
  case fastfillCMD => exact storedReg_inv (.of_handler (by decide) (.of_next fun _ _ _ hs => fastfill_inv hs)) h ht
  case sBeginTriCMD =>
    exact storedReg_inv (.of_handler (by decide) (.of_next fun _ _ _ hs => beginTriangle_inv hs)) h ht
  case sDrawTriCMD => exact storedReg_inv (.of_handler (by decide) fun _ _ _ _ hs hd => drawTriangle_inv hs hd) h ht
  case blt n a =>
    exact storedReg_inv (.of_handler (blitter_not_mem_derivationRegs n (eq_of_beq hi)) storeOnly_keeps) h ht
  case lfbWr l data => exact execLfbWr_inv h ht
  case lfbRd l => exact answerRead_inv h ht
  case texWr unit lod row sword data => exact textureWrite_inv h ht
  case texRd unit lod row sword => exact rejectRead_inv h ht

/-! ### Requests -/

/-- No row of the register table is a blitter transaction with a number outside its block. -/
theorem regRows_wellFormed {p : RegNum × (RegAccess → Instr)} (hp : p ∈ regRows) (a : RegAccess) :
    (p.2 a).wellFormed = true := by
  have hrows : (regRows.map fun p a => (p.2 a).wellFormed) = regRows.map fun _ _ => true := rfl
  exact congrFun (List.map_inj_left.1 hrows p hp) a

/-- What a register number decodes to: a blitter transaction of that number in its block, a row of the table, or, for a
number without a row, an error (30_encoding.md R137). -/
theorem decodeReg_cases (n : RegNum) (a : RegAccess) :
    (n.extractLsb' 4 4 = 0xB#4 ∧ decodeReg n a = .ok (.blt n a)) ∨
    (∃ row, (n, row) ∈ regRows ∧ decodeReg n a = .ok (row a)) ∨
    (regRows.lookup n = none ∧ decodeReg n a = .error (.reserved n a)) := by
  unfold decodeReg
  split
  · next hb => exact .inl ⟨hb, rfl⟩
  · split
    · next row hrow =>
      obtain ⟨l₁, l₂, hrows, -⟩ := List.lookup_eq_some_iff.1 hrow
      exact .inr (.inl ⟨row, by simp [hrows], rfl⟩)
    · next hnone => exact .inr (.inr ⟨hnone, rfl⟩)

/-- A request of full width decodes to a memory transaction or as its register number does (30_encoding.md R130). -/
theorem decode_cases (remap : Bool) (q : BusRequest) :
    decode remap q = .error .narrow ∨ (∃ i, i.wellFormed = true ∧ decode remap q = .ok i) ∨
      ∃ n a, decode remap q = decodeReg n a := by
  unfold decode
  dsimp only
  split
  · exact .inl rfl
  · split
    · split
      · exact .inr (.inl ⟨_, rfl, rfl⟩)
      · exact .inr (.inl ⟨_, rfl, rfl⟩)
    · split
      · split
        · exact .inr (.inl ⟨_, rfl, rfl⟩)
        · exact .inr (.inl ⟨_, rfl, rfl⟩)
      · exact .inr (.inr ⟨_, _, rfl⟩)

/-- The decoder answers well-formed transactions. -/
theorem decode_wellFormed {remap : Bool} {q : BusRequest} {i : Instr} (h : decode remap q = .ok i) :
    i.wellFormed = true := by
  rcases decode_cases remap q with k | ⟨j, hj, k⟩ | ⟨n, a, k⟩ <;> rw [k] at h
  · cases h
  · cases h; exact hj
  · rcases decodeReg_cases n a with ⟨hb, k⟩ | ⟨row, hrow, k⟩ | ⟨-, k⟩ <;> rw [k] at h
    · cases h; exact beq_of_eq hb
    · cases h; exact regRows_wellFormed hrow a
    · cases h

/-- A number that the decoder rejects as reserved has no row. -/
theorem lookup_of_decode_reserved {remap : Bool} {q : BusRequest} {n : RegNum} {a : RegAccess}
    (h : decode remap q = .error (.reserved n a)) : regRows.lookup n = none := by
  rcases decode_cases remap q with k | ⟨j, hj, k⟩ | ⟨m, b, k⟩ <;> rw [k] at h
  · cases h
  · cases h
  · rcases decodeReg_cases m b with ⟨-, k⟩ | ⟨row, -, k⟩ | ⟨hnone, k⟩ <;> rw [k] at h
    · cases h
    · cases h
    · cases h; exact hnone

/-- Every layout and texture register has a row. -/
theorem derivationRegs_have_row : ∀ n ∈ derivationRegs, (regRows.lookup n).isSome = true := by
  decide

theorem runRequest_inv {q : BusRequest} {s t : State} (h : s.Inv) (ht : runRequest q s = .next t) : t.Inv := by
  unfold runRequest at ht
  split at ht
  · next hdecode => exact exec_inv (decode_wellFormed hdecode) h ht
  · cases ht
  · next n a hdecode =>
    have hn : n ∉ derivationRegs := fun hmem => by
      simpa [lookup_of_decode_reserved hdecode] using derivationRegs_have_row n hmem
    exact storedReg_inv (.of_handler hn storeOnly_keeps) h ht

/-! ### Steps -/

/-- A change of the pending inputs and the display values. -/
theorem State.Inv.ports {s : State} (h : s.Inv) (inbox : List HostInput) (display : DisplaySample) :
    State.Inv { s with inbox := inbox, display := display } :=
  h.other s.fbi s.setup s.stats s.fatal s.log inbox display s.readData s.hostEvents s.draws

theorem holdStep_inv {s t : State} (h : s.Inv) (ht : holdStep s = .next t) : t.Inv := by
  unfold holdStep at ht
  split at ht
  · cases ht; exact h
  · cases ht; exact vblank_inv (h.ports _ s.display)

theorem inputStep_inv {s t : State} (h : s.Inv) (ht : inputStep s = .next t) : t.Inv := by
  unfold inputStep at ht
  split at ht
  · cases ht; exact h
  · next i rest _ =>
    cases i with
    | bus q display => exact runRequest_inv (h.ports rest display) ht
    | vblank => cases ht; exact vblank_inv (h.ports rest s.display)

/-- Settles O58: a step of the swap hold, the next input's transaction, or a VBlank event; each keeps the invariant. -/
theorem stepKeepsInvariant : Obligations.StepKeepsInvariant := by
  intro s t h ht
  unfold step at ht
  split at ht
  · cases ht
  · split at ht
    · exact holdStep_inv h ht
    · exact inputStep_inv h ht

end Sys2Proof.Machine
end

section
/-! The steps that run no transaction (00_scope.md R19; 60_exceptions.md R402, R405). A number that the decoder rejects as
reserved is outside the blitter block and has no row, so it has no access flags and R173 does not refuse it: what is left of
the register access is its logged drop (30_encoding.md R137). -/

namespace Sys2Proof.Machine

/-! ### Reserved register numbers -/

/-- A register number that is rejected as reserved lies outside the blitter block and has no row. -/
theorem no_row_of_decodeReg_reserved {m n : RegNum} {b a : RegAccess} (h : decodeReg m b = .error (.reserved n a)) :
    n.extractLsb' 4 4 ≠ 0xB#4 ∧ regRows.lookup n = none := by
  unfold decodeReg at h
  split at h
  · cases h
  · next hblt =>
    split at h
    · cases h
    · next hnone => cases h; exact ⟨hblt, hnone⟩

/-- So the number of a request that is rejected as reserved: it comes from the register decoder (30_encoding.md R137). -/
theorem no_row_of_decode_reserved {remap : Bool} {q : BusRequest} {n : RegNum} {a : RegAccess}
    (h : decode remap q = .error (.reserved n a)) : n.extractLsb' 4 4 ≠ 0xB#4 ∧ regRows.lookup n = none := by
  rcases decode_cases remap q with hnarrow | ⟨i, -, hok⟩ | ⟨m, b, hreg⟩
  · rw [hnarrow] at h; cases h
  · rw [hok] at h; cases h
  · rw [hreg] at h; exact no_row_of_decodeReg_reserved h

/-- The register table gives a number without a row no access flag, and R173 names none (10_state.md R30). -/
theorem flags_of_no_row : ∀ n : RegNum, n.extractLsb' 4 4 ≠ 0xB#4 → regRows.lookup n = none →
    accessFlags .v1 n = .none ∧ accessFlags .v2 n = .none ∧ undescribed .v2 n = false := by
  decide

theorem accessFlags_of_no_row (gen : Gen) {n : RegNum} (hblt : n.extractLsb' 4 4 ≠ 0xB#4)
    (hrow : regRows.lookup n = none) : accessFlags gen n = .none := by
  obtain ⟨hv1, hv2, -⟩ := flags_of_no_row n hblt hrow
  cases gen with
  | v1 => exact hv1
  | v2 => exact hv2

/-- R173 refuses no number without a row: the V2 command-FIFO registers have rows, and V1 has no such registers. -/
theorem undescribed_of_no_row (gen : Gen) {n : RegNum} (hblt : n.extractLsb' 4 4 ≠ 0xB#4)
    (hrow : regRows.lookup n = none) : undescribed gen n = false := by
  obtain ⟨-, -, hv2⟩ := flags_of_no_row n hblt hrow
  cases gen with
  | v1 => rfl
  | v2 => exact hv2

/-! ### Accesses without permission -/

/-- A write without the W flag is logged and dropped (40_register_access.md R171). -/
theorem regWrite_of_not_writable {n : RegNum} {chipsel : ChipSet} {data : Word}
    {handler : ChipSet → Word → State → Out} {s : State} (hdescribed : undescribed s.cfg.gen n = false)
    (hw : (accessFlags s.cfg.gen n).w = false) :
    regWrite n chipsel data handler s = .next { s with log := s.log ++ [.writeNotAllowed n data] } := by
  simp [regWrite, hdescribed, hw, dropWrite, logEvent]

/-- A read without the R flag is logged and returns all ones (40_register_access.md R180). -/
theorem regRead_of_not_readable {n : RegNum} {value : State → Word} {s : State}
    (hr : (accessFlags s.cfg.gen n).r = false) :
    regRead n value s = .next { s with log := s.log ++ [.readNotAllowed n], readData := 0xFFFFFFFF } := by
  rcases regRead_cases n value s with ⟨hr', -⟩ | ⟨-, hread⟩
  · simp [hr] at hr'
  · exact hread

/-- A write to a reserved number is logged and dropped (30_encoding.md R137). -/
theorem reservedAccess_write {n : RegNum} (hblt : n.extractLsb' 4 4 ≠ 0xB#4) (hrow : regRows.lookup n = none)
    (chipsel : ChipSet) (data : Word) (s : State) :
    reservedAccess n (.write chipsel data) s = .next { s with log := s.log ++ [.writeNotAllowed n data] } :=
  regWrite_of_not_writable (undescribed_of_no_row _ hblt hrow) (by rw [accessFlags_of_no_row _ hblt hrow]; rfl)

/-- A read of a reserved number is logged and returns all ones (30_encoding.md R137). -/
theorem reservedAccess_read {n : RegNum} (hblt : n.extractLsb' 4 4 ≠ 0xB#4) (hrow : regRows.lookup n = none) (s : State) :
    reservedAccess n .read s = .next { s with log := s.log ++ [.readNotAllowed n], readData := 0xFFFFFFFF } :=
  regRead_of_not_readable (value := fun s => s.fbiReg n) (by rw [accessFlags_of_no_row _ hblt hrow]; rfl)

/-! ### The requests and inputs of a step -/

/-- A request narrower than 32 bits refuses (20_memory.md R102; 60_exceptions.md R405). -/
theorem runRequest_narrow (k : BusKind) (a : BitVec 24) (d : Word) (s : State) :
    runRequest ⟨k, .narrow, a, d⟩ s = .refused .narrowRequest := rfl

/-- A request that decodes to a reserved number is that number's access (30_encoding.md R137). -/
theorem runRequest_of_decode_reserved {s : State} {q : BusRequest} {n : RegNum} {a : RegAccess}
    (hdecode : decode s.remap q = .error (.reserved n a)) : runRequest q s = reservedAccess n a s := by
  simp [runRequest, hdecode]

/-- After a fatal error there is no step (60_exceptions.md R402). -/
theorem step_of_fatal {s : State} (hfatal : s.fatal = true) : step s = .fault .stopped := by
  simp [step, hfatal]

/-- Without an input nothing changes, in the swap hold or outside it (log entry 11). -/
theorem step_of_inbox_nil {s : State} (hfatal : s.fatal = false) (hinbox : s.inbox = []) : step s = .next s := by
  cases hpending : s.swap.pending with
  | true => simp [step, hfatal, hpending, holdStep, hinbox, dropVblank]
  | false => simp [step_eq_inputStep hfatal hpending, inputStep, hinbox]

/-- Outside the fatal state and the swap hold, a step takes the first input (60_exceptions.md R410). -/
theorem step_eq_takeInput {s : State} {i : HostInput} {rest : List HostInput} (hfatal : s.fatal = false)
    (hpending : s.swap.pending = false) (hinbox : s.inbox = i :: rest) :
    step s = takeInput i { s with inbox := rest } := by
  simp [step_eq_inputStep hfatal hpending, inputStep, hinbox]

/-- Outside the fatal state and the swap hold, a bus transaction that comes first is run as its request (log entry 13). -/
theorem step_eq_runRequest {s : State} {q : BusRequest} {display : DisplaySample} {rest : List HostInput}
    (hfatal : s.fatal = false) (hpending : s.swap.pending = false) (hinbox : s.inbox = .bus q display :: rest) :
    step s = runRequest q { s with inbox := rest, display := display } :=
  (step_eq_inputStep hfatal hpending).trans (inputStep_bus hinbox)

/-- Settles O57: each kind of first input is taken by its equation, and a reserved number, which has no row, by the drop of
its access; its request decodes the same once the input is removed. -/
theorem stepOtherwise : Obligations.StepOtherwise := by
  intro s
  refine ⟨step_of_fatal, step_of_inbox_nil, fun hfatal hpending rest => ⟨?narrow, ?reserved, ?vblank⟩⟩
  case narrow =>
    intro k a d display hinbox
    rw [step_eq_runRequest hfatal hpending hinbox, runRequest_narrow]
  case reserved =>
    intro q display n a hinbox hdecode
    obtain ⟨hblt, hrow⟩ := no_row_of_decode_reserved hdecode
    have hstep := step_eq_runRequest hfatal hpending hinbox
    have hdecode' : decode (State.remap { s with inbox := rest, display := display }) q = .error (.reserved n a) := by
      rwa [remap_with_inbox_display]
    refine ⟨hstep, ?_⟩
    rw [hstep, runRequest_of_decode_reserved hdecode']
    cases a with
    | write chipsel data => exact reservedAccess_write hblt hrow chipsel data _
    | read => exact reservedAccess_read hblt hrow _
  case vblank => exact step_eq_takeInput hfatal hpending

end Sys2Proof.Machine
end

section
/-! The decoder by address space (20_memory.md R100; 30_encoding.md R130 to R136): which fields of the address each space
reads, and so what decodes the encoder's addresses, which address bits matter and what the alternate map replaces. -/

namespace Sys2Proof

/-! ### Fields under a mask -/

/-- Addresses that agree under a mask have the same bit wherever the mask has one. -/
theorem getLsbD_eq_of_and_eq {w : Nat} {a b mask : BitVec w} (h : a &&& mask = b &&& mask) {i : Nat}
    (hi : mask.getLsbD i = true) : a.getLsbD i = b.getLsbD i := by
  simpa [hi] using congrArg (·.getLsbD i) h

/-- Addresses that agree under a mask have the same field wherever the mask covers the field. -/
theorem extractLsb'_eq_of_and_eq {w : Nat} {a b mask : BitVec w} (h : a &&& mask = b &&& mask) {lo len : Nat}
    (hmask : ∀ i, i < len → mask.getLsbD (lo + i) = true) : a.extractLsb' lo len = b.extractLsb' lo len := by
  ext i hi
  simpa only [BitVec.getElem_extractLsb'] using getLsbD_eq_of_and_eq h (hmask i hi)

/-- Agreement under a mask is agreement under every part of it. -/
theorem and_eq_of_and_eq {w : Nat} {a b mask part : BitVec w} (h : a &&& mask = b &&& mask)
    (hpart : mask &&& part = part) : a &&& part = b &&& part := by
  rw [← hpart, ← BitVec.and_assoc, ← BitVec.and_assoc, h]

/-- The space bits of an address of the register space (20_memory.md R100). -/
theorem registerSpace_bits {a : BitVec 24} (h : a &&& 0xC00000 = 0) : a.getLsbD 23 = false ∧ a.getLsbD 22 = false :=
  ⟨getLsbD_eq_of_and_eq (b := 0) (mask := 0xC00000) h (by decide),
    getLsbD_eq_of_and_eq (b := 0) (mask := 0xC00000) h (by decide)⟩

/-! ### Decoding the register space -/

/-- In the register space a request decodes as its register number after the alternate map (30_encoding.md R131, R133). -/
theorem decode_registerSpace {a : BitVec 24} (h23 : a.getLsbD 23 = false) (h22 : a.getLsbD 22 = false) (remap : Bool)
    (k : BusKind) (d : Word) :
    decode remap ⟨k, .full, a, d⟩ =
      decodeReg (aliasNum remap (a.getLsbD 21) (a.extractLsb' 2 8)) (requestAccess ⟨k, .full, a, d⟩) := by
  simp only [decode, h23, h22, Bool.false_eq_true, if_false]

/-- Without altsel the alternate map replaces nothing (30_encoding.md R133). -/
theorem aliasNum_of_not_altsel (remap : Bool) (n : RegNum) : aliasNum remap false n = n := by
  simp [aliasNum]

/-- Without the remap state the alternate map replaces nothing (30_encoding.md R133). -/
theorem aliasNum_of_not_remap (altsel : Bool) (n : RegNum) : aliasNum false altsel n = n := by
  simp [aliasNum]

/-- The enabled alternate map replaces the numbers below 0x40 with altsel (30_encoding.md R133). -/
theorem aliasNum_of_remap (altsel : Bool) (n : RegNum) :
    aliasNum true altsel n = if altsel = true ∧ n.toNat < 0x40 then aliasTable.getD n.toNat n else n := by
  simp [aliasNum]

/-! ### Decoding what the encoder makes -/

/-- A register request gives back its access (30_encoding.md R131). -/
theorem requestAccess_regRequest (n : RegNum) (a : RegAccess) : requestAccess (regRequest n a) = a := by
  cases a with
  | read => rfl
  | write chipsel data => simp only [requestAccess, regRequest, regAddr_chips]

/-- The encoder's address of a register decodes as that register, whatever the alternate map: it leaves altsel clear. -/
theorem decode_regRequest (remap : Bool) (n : RegNum) (a : RegAccess) : decode remap (regRequest n a) = decodeReg n a := by
  have hdecode : ∀ k chipsel d, decode remap ⟨k, .full, regAddr chipsel n, d⟩ =
      decodeReg n (requestAccess ⟨k, .full, regAddr chipsel n, d⟩) := fun k chipsel d => by
    obtain ⟨h23, h22, h21⟩ := regAddr_space chipsel n
    rw [decode_registerSpace h23 h22, h21, regAddr_num, aliasNum_of_not_altsel]
  calc decode remap (regRequest n a) = decodeReg n (requestAccess (regRequest n a)) := by
        cases a <;> exact hdecode _ _ _
    _ = decodeReg n a := by rw [requestAccess_regRequest]

/-- A blitter number decodes to its blitter transaction (10_state.md R30). -/
theorem decodeReg_blt {n : RegNum} (h : n.extractLsb' 4 4 = 0xB#4) (a : RegAccess) : decodeReg n a = .ok (.blt n a) := by
  simp [decodeReg, h]

/-- The encoder's address of a texture word decodes to its four fields (30_encoding.md R136). -/
theorem decode_texAddr (remap : Bool) (k : BusKind) (unit : BitVec 2) (lod : BitVec 4) (row : BitVec 8)
    (sword : BitVec 7) (d : Word) :
    decode remap ⟨k, .full, texAddr unit lod row sword, d⟩ =
      .ok (match k with | .wr => .texWr unit lod row sword d | .rd => .texRd unit lod row sword) := by
  obtain ⟨h23, hunit, hlod, hrow, hsword⟩ := texAddr_fields unit lod row sword
  cases k <;> simp only [decode, h23, hunit, hlod, hrow, hsword, if_true]

/-- The encoder's address of an LFB word decodes to its word offset (30_encoding.md R135). -/
theorem decode_lfbAddr (remap : Bool) (k : BusKind) (l : BitVec 20) (d : Word) :
    decode remap ⟨k, .full, lfbAddr l, d⟩ = .ok (match k with | .wr => .lfbWr l d | .rd => .lfbRd l) := by
  obtain ⟨h23, h22, hl⟩ := lfbAddr_fields l
  cases k <;> simp only [decode, h23, h22, hl, Bool.false_eq_true, if_false, if_true]

/-- Settles O1: a memory transaction has its address fields back, a blitter transaction its number, and any other register
transaction is the row that the table holds for its number. -/
theorem decodeOfEncode : Obligations.DecodeOfEncode := by
  intro remap i hwf
  cases i
  case texWr unit lod row sword d => exact decode_texAddr remap .wr unit lod row sword d
  case texRd unit lod row sword => exact decode_texAddr remap .rd unit lod row sword 0
  case lfbWr l d => exact decode_lfbAddr remap .wr l d
  case lfbRd l => exact decode_lfbAddr remap .rd l 0
  case blt n a => exact (decode_regRequest remap n a).trans (decodeReg_blt (eq_of_beq hwf) a)
  all_goals rename_i a; exact (decode_regRequest remap _ a).trans rfl

/-- Settles O2: each request is evaluated. -/
theorem specWordsDecode : Obligations.SpecWordsDecode :=
  ⟨rfl, rfl, rfl, rfl, rfl, rfl, rfl, rfl, rfl, rfl⟩

/-! ### The address bits that matter -/

/-- The decoder reads no address bit but A[23:2] (30_encoding.md R130). -/
theorem decode_congr_word {a b : BitVec 24} (h : a &&& 0xFFFFFC = b &&& 0xFFFFFC) (remap : Bool) (k : BusKind)
    (z : BusSize) (d : Word) : decode remap ⟨k, z, a, d⟩ = decode remap ⟨k, z, b, d⟩ := by
  have hbit : ∀ i, (0xFFFFFC#24).getLsbD i = true → a.getLsbD i = b.getLsbD i := fun _ => getLsbD_eq_of_and_eq h
  have hfield : ∀ lo len, (∀ i, i < len → (0xFFFFFC#24).getLsbD (lo + i) = true) →
      a.extractLsb' lo len = b.extractLsb' lo len := fun _ _ => extractLsb'_eq_of_and_eq h
  simp only [decode, requestAccess, hbit 23 (by decide), hbit 22 (by decide), hbit 21 (by decide),
    hfield 21 2 (by decide), hfield 17 4 (by decide), hfield 9 8 (by decide), hfield 2 7 (by decide),
    hfield 2 20 (by decide), hfield 2 8 (by decide), hfield 10 4 (by decide)]

/-- In the register space the decoder reads the register number, altsel and the access (30_encoding.md R131). -/
theorem decode_congr_register {a b : BitVec 24} {k : BusKind} {d : Word} (ha : a &&& 0xC00000 = 0)
    (h : a &&& 0xE003FC = b &&& 0xE003FC)
    (haccess : requestAccess ⟨k, .full, a, d⟩ = requestAccess ⟨k, .full, b, d⟩) (remap : Bool) (z : BusSize) :
    decode remap ⟨k, z, a, d⟩ = decode remap ⟨k, z, b, d⟩ := by
  cases z with
  | narrow => rfl
  | full =>
    obtain ⟨ha23, ha22⟩ := registerSpace_bits ha
    have hb23 : b.getLsbD 23 = false := (getLsbD_eq_of_and_eq h (by decide)).symm.trans ha23
    have hb22 : b.getLsbD 22 = false := (getLsbD_eq_of_and_eq h (by decide)).symm.trans ha22
    have haltsel : a.getLsbD 21 = b.getLsbD 21 := getLsbD_eq_of_and_eq h (by decide)
    have hnum : a.extractLsb' 2 8 = b.extractLsb' 2 8 := extractLsb'_eq_of_and_eq h (by decide)
    rw [decode_registerSpace ha23 ha22, decode_registerSpace hb23 hb22, haltsel, hnum, haccess]

/-- Settles O3: the fields that the decoder reads lie under each clause's mask; the chip select is one of them for a
register write, and is not read for a register read. -/
theorem ignoredAddressBits : Obligations.IgnoredAddressBits := by
  intro remap k z d a b
  refine ⟨fun h => decode_congr_word h remap k z d, fun ha h => ?_,
    fun ha h => decode_congr_register (k := .rd) ha h rfl remap z⟩
  have hchips : a.extractLsb' 10 4 = b.extractLsb' 10 4 := extractLsb'_eq_of_and_eq h (by decide)
  refine decode_congr_register ha (and_eq_of_and_eq h (by decide)) ?_ remap z
  simp only [requestAccess, hchips]

/-! ### The alternate map -/

/-- The address of register number `n` in the register space, with altsel clear and every other bit that of `a`
(30_encoding.md R131). -/
def withRegNum (a : BitVec 24) (n : RegNum) : BitVec 24 :=
  0#3 ++ a.extractLsb' 14 7 ++ a.extractLsb' 10 4 ++ n ++ a.extractLsb' 0 2

/-- The fields of such an address: the register space, altsel clear, the new number and the old chip select. -/
theorem withRegNum_fields (a : BitVec 24) (n : RegNum) :
    (withRegNum a n).getLsbD 23 = false ∧ (withRegNum a n).getLsbD 22 = false ∧
      (withRegNum a n).extractLsb' 2 8 = n ∧ (withRegNum a n).extractLsb' 10 4 = a.extractLsb' 10 4 := by
  refine ⟨?bit23, ?bit22, ?num, ?chips⟩
  case bit23 => simp only [withRegNum, BitVec.getLsbD_append]; simp
  case bit22 => simp only [withRegNum, BitVec.getLsbD_append]; simp
  case num =>
    ext i hi
    simp only [withRegNum, BitVec.getElem_extractLsb', BitVec.getLsbD_append]
    interval_cases i <;> simp
  case chips =>
    ext i hi
    simp only [withRegNum, BitVec.getElem_extractLsb', BitVec.getLsbD_append]
    interval_cases i <;> simp

/-- A request for such an address decodes, without the alternate map, as the new number with the old access. -/
theorem decode_withRegNum (k : BusKind) (a : BitVec 24) (n : RegNum) (d : Word) :
    decode false ⟨k, .full, withRegNum a n, d⟩ = decodeReg n (requestAccess ⟨k, .full, a, d⟩) := by
  obtain ⟨h23, h22, hnum, hchips⟩ := withRegNum_fields a n
  rw [decode_registerSpace h23 h22, hnum, aliasNum_of_not_remap]
  simp only [requestAccess, hchips]

/-- Settles O4: both sides decode the number that the enabled map answers, with one access. -/
theorem alternateMapRedirects : Obligations.AlternateMapRedirects := by
  intro k d a ha n redirected
  obtain ⟨h23, h22⟩ := registerSpace_bits ha
  have hredirected : decode false ⟨k, .full, redirected, d⟩ =
      decodeReg (aliasTable.getD n.toNat n) (requestAccess ⟨k, .full, a, d⟩) := decode_withRegNum k a _ d
  have hplain : decode false ⟨k, .full, a, d⟩ = decodeReg n (requestAccess ⟨k, .full, a, d⟩) := by
    rw [decode_registerSpace h23 h22, aliasNum_of_not_remap]
  rw [decode_registerSpace h23 h22, aliasNum_of_remap, hredirected, hplain]
  split <;> rfl

end Sys2Proof
end

section
/-! The conversion of a binary32 parameter word (30_encoding.md R145): its magnitude in each range of the exponent, and the
sign applied to it. -/

namespace Sys2Proof.Machine

/-- The biased exponent of a binary32 word. -/
def biasedExp (d : Word) : Nat := (d.extractLsb' 23 8).toNat

/-- The significand of a binary32 word, with the implicit 1 that R145 always adds. -/
def significand (d : Word) : Nat := (d.extractLsb' 0 23).toNat + 2 ^ 23

/-- The sign of a binary32 word. -/
def signOf (d : Word) : Int := if d.getLsbD 31 then -1 else 1

theorem significand_pos (d : Word) : 0 < significand d := by
  unfold significand
  omega

theorem significand_lt (d : Word) : significand d < 2 ^ 24 := by
  have := (d.extractLsb' 0 23).isLt
  unfold significand
  omega

/-! ### The magnitude -/

section

variable {w : Nat} {d : Word} {k : Nat}

/-- The model's magnitude, with the exponent's ranges in natural numbers. -/
theorem f2iMagnitude_eq : f2iMagnitude w d k =
    if biasedExp d + k < 150 then
      if 150 < biasedExp d + k + w then significand d >>> (150 - k - biasedExp d) else 0
    else if biasedExp d + k < 150 + w then significand d <<< (biasedExp d + k - 150) % 2 ^ w
    else 2 ^ (w - 1) - 1 := by
  have hexp : (fieldNat d 23 8 : Int) = biasedExp d := rfl
  have hsignificand : fieldNat d 0 23 + 0x800000 = significand d := rfl
  have hneg : (biasedExp d : Int) - 127 - 23 + k < 0 ↔ biasedExp d + k < 150 := by omega
  have hshort : (biasedExp d : Int) - 127 - 23 + k > -(w : Int) ↔ 150 < biasedExp d + k + w := by omega
  have hfits : (biasedExp d : Int) - 127 - 23 + k < w ↔ biasedExp d + k < 150 + w := by omega
  have hright : (-((biasedExp d : Int) - 127 - 23 + k)).toNat = 150 - k - biasedExp d := by omega
  have hleft : ((biasedExp d : Int) - 127 - 23 + k).toNat = biasedExp d + k - 150 := by omega
  simp only [f2iMagnitude, hexp, hsignificand, hneg, hshort, hfits, hright, hleft]

/-- A value whose unit lies below the result's: the significand is truncated. A shift of the width or more leaves 0, as a
shift by the significand's own length does. -/
theorem f2iMagnitude_truncated (hw : 24 ≤ w) (h : biasedExp d + k < 150) :
    f2iMagnitude w d k = significand d / 2 ^ (150 - k - biasedExp d) := by
  rw [f2iMagnitude_eq, if_pos h, Nat.shiftRight_eq_div_pow]
  split
  · rfl
  · next hlarge =>
    have hpow : 2 ^ 24 ≤ 2 ^ (150 - k - biasedExp d) := Nat.pow_le_pow_right (by decide) (by omega)
    exact (Nat.div_eq_of_lt (lt_of_lt_of_le (significand_lt d) hpow)).symm

/-- A value whose unit lies at or above the result's: the significand is shifted and wraps at the width. -/
theorem f2iMagnitude_shifted (h : 150 ≤ biasedExp d + k) (hlt : biasedExp d + k < 150 + w) :
    f2iMagnitude w d k = significand d * 2 ^ (biasedExp d + k - 150) % 2 ^ w := by
  rw [f2iMagnitude_eq, if_neg (by omega), if_pos hlt, Nat.shiftLeft_eq]

/-- A value whose unit lies at or above the width saturates. -/
theorem f2iMagnitude_saturated (h : 150 + w ≤ biasedExp d + k) : f2iMagnitude w d k = 2 ^ (w - 1) - 1 := by
  rw [f2iMagnitude_eq, if_neg (by omega), if_neg (by omega)]

/-! ### The sign -/

/-- The result is the signed magnitude at the width. -/
theorem f2i_eq_ofInt : f2i w d k = BitVec.ofInt w (signOf d * (f2iMagnitude w d k : Int)) := by
  unfold f2i signOf bit
  split
  · rw [neg_one_mul, BitVec.ofInt_neg, BitVec.ofInt_natCast]
  · rw [one_mul, BitVec.ofInt_natCast]

/-- A magnitude that the width holds beside the sign keeps its value. -/
theorem f2i_toInt {r : Nat} (hw : 0 < w) (hr : f2iMagnitude w d k = r) (hlt : r < 2 ^ (w - 1)) :
    (f2i w d k).toInt = signOf d * (r : Int) := by
  have hbound : (r : Int) < 2 ^ (w - 1) := by exact_mod_cast hlt
  have hsign : signOf d = -1 ∨ signOf d = 1 := by unfold signOf; split <;> simp
  rw [f2i_eq_ofInt, hr]
  refine BitVec.toInt_ofInt_eq_self hw ?lower ?upper <;> rcases hsign with h | h <;> rw [h] <;> omega

/-! ### The result, range by range -/

theorem f2i_truncated (hw : 25 ≤ w) (h : biasedExp d + k < 150) :
    (f2i w d k).toInt = signOf d * ((significand d / 2 ^ (150 - k - biasedExp d) : Nat) : Int) := by
  refine f2i_toInt (by omega) (f2iMagnitude_truncated (by omega) h) ?_
  calc significand d / 2 ^ (150 - k - biasedExp d) ≤ significand d := Nat.div_le_self _ _
    _ < 2 ^ 24 := significand_lt d
    _ ≤ 2 ^ (w - 1) := Nat.pow_le_pow_right (by decide) (by omega)

/-- A shifted significand that the width holds has not been shifted by the width. -/
theorem f2i_shifted_in_range (hw : 0 < w) (h : 150 ≤ biasedExp d + k)
    (hlt : significand d * 2 ^ (biasedExp d + k - 150) < 2 ^ (w - 1)) :
    (f2i w d k).toInt = signOf d * ((significand d * 2 ^ (biasedExp d + k - 150) : Nat) : Int) := by
  have hpow : 2 ^ (biasedExp d + k - 150) < 2 ^ (w - 1) :=
    lt_of_le_of_lt (Nat.le_mul_of_pos_left _ (significand_pos d)) hlt
  have hexp : biasedExp d + k - 150 < w - 1 := (Nat.pow_lt_pow_iff_right (by decide)).1 hpow
  have hwidth : 2 ^ (w - 1) ≤ 2 ^ w := Nat.pow_le_pow_right (by decide) (by omega)
  refine f2i_toInt hw ?_ hlt
  rw [f2iMagnitude_shifted h (by omega), Nat.mod_eq_of_lt (lt_of_lt_of_le hlt hwidth)]

theorem f2i_wrapped (h : 150 ≤ biasedExp d + k) (hlt : biasedExp d + k < 150 + w) :
    f2i w d k = BitVec.ofInt w (signOf d * ((significand d * 2 ^ (biasedExp d + k - 150) % 2 ^ w : Nat) : Int)) := by
  rw [f2i_eq_ofInt, f2iMagnitude_shifted h hlt]

theorem f2i_saturated (hw : 0 < w) (h : 150 + w ≤ biasedExp d + k) :
    (f2i w d k).toInt = signOf d * ((2 ^ (w - 1) - 1 : Nat) : Int) :=
  f2i_toInt hw (f2iMagnitude_saturated h) (Nat.sub_one_lt (Nat.two_pow_pos _).ne')

/-- A zero or a subnormal is truncated to 0: the unit of its significand lies 24 bits or more below the result's. -/
theorem f2i_of_biasedExp_zero (hw : 25 ≤ w) (h : biasedExp d = 0) (hk : k < 127) : (f2i w d k).toInt = 0 := by
  have hpow : 2 ^ 24 ≤ 2 ^ (150 - k - biasedExp d) := Nat.pow_le_pow_right (by decide) (by omega)
  rw [f2i_truncated hw (by omega), Nat.div_eq_of_lt (lt_of_lt_of_le (significand_lt d) hpow)]
  simp

end

/-- Settles O19: the ranges of the exponent, at both widths. -/
theorem floatConversionTruncates : Obligations.FloatConversionTruncates := by
  intro w d k hwidth
  have hw : 25 ≤ w := by omega
  exact ⟨f2i_truncated hw, f2i_shifted_in_range (by omega), f2i_wrapped, f2i_saturated (by omega),
    f2i_of_biasedExp_zero hw⟩

end Sys2Proof.Machine
end

section
/-! The writes that set parameters (30_encoding.md R140 to R146): each is the store of R174 and then the handler of its
register, whose conversion the rows of the claims name. -/

namespace Sys2Proof.Machine

/-! ### Stores that pass the checks -/

/-- A register whose writes no check of 40_register_access.md R170 stops in generation `gen`, given a chip to store to. -/
def OpenWrite (gen : Gen) (n : RegNum) : Prop :=
  undescribed gen n = false ∧ (accessFlags gen n).w = true ∧ isInitReg n = false

/-- An open write stores the word in the slots of its chip set and runs the handler (40_register_access.md R170, R174). -/
theorem storedReg_write_of_open {n : RegNum} {handler : ChipSet → Word → State → Out} {cs : ChipSet} {d : Word}
    {s : State} (hn : OpenWrite s.cfg.gen n) (hwf : tableWf 0 s.regs = true)
    (hchips : effectiveChips cs s.cfg.chipmask ≠ 0#4) :
    ∃ regs, SlotsStored s.regs regs (effectiveChips cs s.cfg.chipmask) n d ∧
      storedReg n handler (.write cs d) s = handler (effectiveChips cs s.cfg.chipmask) d { s with regs := regs } := by
  obtain ⟨hdescribed, hw, hinit⟩ := hn
  refine ⟨_, slotsStored_storeChips hwf, ?_⟩
  rw [storedReg_write hdescribed hw hchips (.inl hinit), ← storeChips_frame]

/-! ### Parameter registers -/

/-- The number of a parameter register, fixed-point or binary32 (10_state.md R30). -/
def isParamNum (n : RegNum) : Bool :=
  let k := n.toNat
  (decide (0x02 ≤ k) && decide (k ≤ 0x1F)) || (decide (0x22 ≤ k) && decide (k ≤ 0x3F))

/-- Both generations let every parameter register be written (10_state.md R30). -/
theorem openWrite_of_isParamNum {n : RegNum} (h : isParamNum n = true) (gen : Gen) : OpenWrite gen n := by
  have hflags : ∀ n, isParamNum n = true → (undescribed .v2 n = false ∧ isInitReg n = false) ∧
      (accessFlags .v1 n).w = true ∧ (accessFlags .v2 n).w = true := by
    decide
  obtain ⟨⟨hdescribed, hinit⟩, hw1, hw2⟩ := hflags n h
  cases gen with
  | v1 => exact ⟨rfl, hw1, hinit⟩
  | v2 => exact ⟨hdescribed, hw2, hinit⟩

/-- A parameter of the FBI sets its iterators when the chip set has the FBI (40_register_access.md R175). -/
theorem fbiParam_eq (put : Word → FbiIter → FbiIter) (chips : ChipSet) (d : Word) (s : State) :
    fbiParam put chips d s = .next { s with fbi := if chips.getLsbD 0 then put d s.fbi else s.fbi } := by
  rw [fbiParam, updateFbi_eq]

/-- A parameter of the TMUs sets the iterators of each TMU of the chip set (40_register_access.md R175). -/
theorem tmuParam_eq (put : Word → Tmu → Tmu) (chips : ChipSet) (d : Word) (s : State) :
    tmuParam put chips d s = .next { s with
      tmu0 := if chips.getLsbD 1 then put d s.tmu0 else s.tmu0
      tmu1 := if chips.getLsbD 2 then put d s.tmu1 else s.tmu1 } := by
  rw [tmuParam, updateTmus_eq]

/-- A parameter of both sets the iterators of each unit of the chip set (40_register_access.md R175). -/
theorem bothParam_eq (putFbi : Word → FbiIter → FbiIter) (putTmu : Word → Tmu → Tmu) (chips : ChipSet) (d : Word)
    (s : State) :
    bothParam putFbi putTmu chips d s = .next { s with
      fbi := if chips.getLsbD 0 then putFbi d s.fbi else s.fbi
      tmu0 := if chips.getLsbD 1 then putTmu d s.tmu0 else s.tmu0
      tmu1 := if chips.getLsbD 2 then putTmu d s.tmu1 else s.tmu1 } := by
  rw [bothParam, updateFbi_eq, updateTmus_eq]

/-- A write to a parameter register stores the word and runs the register's handler (40_register_access.md R174, R175). -/
theorem exec_paramWrite {instr : RegAccess → Instr} {n : RegNum} {handler : ChipSet → Word → State → Out}
    (hnum : isParamNum n = true) (hexec : ∀ a s, exec (instr a) s = storedReg n handler a s) {cs : ChipSet} {d : Word}
    {s : State} (hwf : tableWf 0 s.regs = true) (hchips : effectiveChips cs s.cfg.chipmask ≠ 0#4) :
    ∃ regs, SlotsStored s.regs regs (effectiveChips cs s.cfg.chipmask) n d ∧
      exec (instr (.write cs d)) s = handler (effectiveChips cs s.cfg.chipmask) d { s with regs := regs } := by
  rw [hexec]
  exact storedReg_write_of_open (openWrite_of_isParamNum hnum s.cfg.gen) hwf hchips

/-- Two lists of transactions with equal meanings row by row: the equation of one row. -/
theorem exec_of_rows {β : Type} {rows : List β} {instr : β → RegAccess → Instr} {run : β → RegAccess → State → Out}
    (h : (rows.map fun row a => exec (instr row a)) = rows.map run) :
    ∀ row ∈ rows, ∀ a s, exec (instr row a) s = run row a s :=
  fun row hrow a s => congrFun (congrFun (List.map_inj_left.1 h row hrow) a) s

/-- A row of FBI parameters stands for its transactions: they are accesses to a parameter register whose handler puts the
converted word. -/
def FbiParamRow {α : Type} (row : ParamRow α FbiIter) : Prop :=
  isParamNum row.num = true ∧ ∀ a s, exec (row.instr a) s = storedReg row.num (fbiParam fun d => row.put (row.conv d)) a s

/-- What a write of such a row does: the store, and the iterator when the chip set has the FBI. -/
theorem FbiParamRow.write {α : Type} {row : ParamRow α FbiIter} (h : FbiParamRow row) {cs : ChipSet} {d : Word}
    {s : State} (hwf : tableWf 0 s.regs = true) (hchips : effectiveChips cs s.cfg.chipmask ≠ 0#4) :
    ∃ regs, SlotsStored s.regs regs (effectiveChips cs s.cfg.chipmask) row.num d ∧
      exec (row.instr (.write cs d)) s = .next { s with
        regs := regs
        fbi := if (effectiveChips cs s.cfg.chipmask).getLsbD 0 then row.put (row.conv d) s.fbi else s.fbi } := by
  obtain ⟨hnum, hexec⟩ := h
  obtain ⟨regs, hstored, hwrite⟩ := exec_paramWrite hnum hexec hwf hchips
  exact ⟨regs, hstored, hwrite.trans (fbiParam_eq _ _ _ _)⟩

/-- A list of FBI parameters: their numbers are parameter registers, and their meanings agree row by row. -/
theorem fbiParamRow_of_rows {α : Type} {rows : List (ParamRow α FbiIter)}
    (hnum : ∀ row ∈ rows, isParamNum row.num = true)
    (hexec : (rows.map fun row a => exec (row.instr a)) =
      rows.map fun row => storedReg row.num (fbiParam fun d => row.put (row.conv d))) :
    ∀ row ∈ rows, FbiParamRow row :=
  fun row hrow => ⟨hnum row hrow, exec_of_rows hexec row hrow⟩

theorem vertexRows_fbiParam : ∀ row ∈ vertexRows, FbiParamRow row := fbiParamRow_of_rows (by decide) rfl

theorem colorRows_fbiParam : ∀ row ∈ colorRows, FbiParamRow row := fbiParamRow_of_rows (by decide) rfl

theorem depthRows_fbiParam : ∀ row ∈ depthRows, FbiParamRow row := fbiParamRow_of_rows (by decide) rfl

/-- Settles O14: every vertex register is a parameter of the FBI. -/
theorem vertexWritesSetCoordinates : Obligations.VertexWritesSetCoordinates :=
  fun row hrow _ _ _ hwf hchips => (vertexRows_fbiParam row hrow).write hwf hchips

/-- Settles O15: every colour register is a parameter of the FBI. -/
theorem colorWritesSetIterators : Obligations.ColorWritesSetIterators :=
  fun row hrow _ _ _ hwf hchips => (colorRows_fbiParam row hrow).write hwf hchips

/-- Settles O16: every depth register is a parameter of the FBI. -/
theorem depthWritesSetIterators : Obligations.DepthWritesSetIterators :=
  fun row hrow _ _ _ hwf hchips => (depthRows_fbiParam row hrow).write hwf hchips

/-- The S and T registers are parameters of the TMUs (40_register_access.md R175). -/
theorem coordRows_exec : ∀ row ∈ coordRows, ∀ a s,
    exec (row.instr a) s = storedReg row.num (tmuParam fun d => row.put (row.conv d)) a s :=
  exec_of_rows (run := fun row : ParamRow Wide Tmu => storedReg row.num (tmuParam fun d => row.put (row.conv d))) rfl

/-- The W registers are parameters of the FBI and the TMUs (40_register_access.md R175). -/
theorem wRows_exec : ∀ row ∈ wRows, ∀ a s,
    exec (row.instr a) s =
      storedReg row.num (bothParam (fun d => row.putFbi (row.conv d)) fun d => row.putTmu (row.conv d)) a s :=
  exec_of_rows (run := fun row : WRow => storedReg row.num
    (bothParam (fun d => row.putFbi (row.conv d)) fun d => row.putTmu (row.conv d))) rfl

/-- Settles O17: the store, then the iterator of each TMU of the chip set. -/
theorem coordWritesSetTmus : Obligations.CoordWritesSetTmus := by
  intro row hrow cs d s hwf hchips chips
  have hnum : ∀ row ∈ coordRows, isParamNum row.num = true := by decide
  obtain ⟨regs, hstored, hwrite⟩ := exec_paramWrite (hnum row hrow) (coordRows_exec row hrow) hwf hchips
  exact ⟨regs, hstored, hwrite.trans (tmuParam_eq _ _ _ _)⟩

/-- Settles O18: the store, then the iterator of each unit of the chip set. -/
theorem wWritesSetAllUnits : Obligations.WWritesSetAllUnits := by
  intro row hrow cs d s hwf hchips chips
  have hnum : ∀ row ∈ wRows, isParamNum row.num = true := by decide
  obtain ⟨regs, hstored, hwrite⟩ := exec_paramWrite (hnum row hrow) (wRows_exec row hrow) hwf hchips
  exact ⟨regs, hstored, hwrite.trans (bothParam_eq _ _ _ _ _)⟩

/-! ### The packed setup colour -/

/-- What any register slot reads after a write of one FBI register. -/
theorem readTable_setFbiReg {s : State} (hwf : tableWf 0 s.regs = true) (n : RegNum) (v : Word) (c : Nat) (m : RegNum) :
    readTable 0 (s.setFbiReg n v).regs (slotOf c m) =
      if c = 0 ∧ m = n then v else readTable 0 s.regs (slotOf c m) := by
  have hslot : slotOf c m = slotOf 0 n ↔ c = 0 ∧ m = n := ⟨slotOf_inj, fun ⟨hc, hm⟩ => by rw [hc, hm]⟩
  simp only [setFbiReg_regs, readTable_writeTable hwf, hslot]

theorem setFbiReg_wf {s : State} (hwf : tableWf 0 s.regs = true) (n : RegNum) (v : Word) :
    tableWf 0 (s.setFbiReg n v).regs = true :=
  tableWf_writeTable hwf

/-- The unpacking of a packed colour sets the four colour registers of the FBI and nothing else (30_encoding.md R146; log
entry 18). -/
theorem unpackArgb_spec {s : State} (hwf : tableWf 0 s.regs = true) (chips : ChipSet) (d : Word) :
    ∃ regs, tableWf 0 regs = true ∧ unpackArgb chips d s = .next { s with regs := regs } ∧
      ∀ c m, readTable 0 regs (slotOf c m) =
        if c = 0 ∧ m = 0x9F then f32OfByte (d.extractLsb' 24 8)
        else if c = 0 ∧ m = 0x9C then f32OfByte (d.extractLsb' 16 8)
        else if c = 0 ∧ m = 0x9D then f32OfByte (d.extractLsb' 8 8)
        else if c = 0 ∧ m = 0x9E then f32OfByte (d.extractLsb' 0 8)
        else readTable 0 s.regs (slotOf c m) := by
  have halpha := setFbiReg_wf hwf 0x9F (f32OfByte (field d 24 8))
  have hred := setFbiReg_wf halpha 0x9C (f32OfByte (field d 16 8))
  have hgreen := setFbiReg_wf hred 0x9D (f32OfByte (field d 8 8))
  refine ⟨_, setFbiReg_wf hgreen 0x9E (f32OfByte (field d 0 8)), rfl, fun c m => ?_⟩
  rw [readTable_setFbiReg hgreen, readTable_setFbiReg hred, readTable_setFbiReg halpha, readTable_setFbiReg hwf]
  -- the four register numbers differ, so the order of the stores does not matter
  simp only [field]
  split_ifs <;> simp_all

/-- Settles O23: the store of R174, then the unpacking; the four colour registers and sARGB are different registers. -/
theorem packedColorUnpacks : Obligations.PackedColorUnpacks := by
  intro cs d s hwf hgen hchips
  have hopen : OpenWrite s.cfg.gen 0x9B := by rw [hgen]; exact ⟨rfl, rfl, rfl⟩
  obtain ⟨stored, ⟨hstoredWf, hstored⟩, hwrite⟩ :=
    storedReg_write_of_open (handler := unpackArgb) (d := d) hopen hwf hchips
  obtain ⟨regs, hregsWf, hunpack, hregs⟩ :=
    unpackArgb_spec (s := { s with regs := stored }) hstoredWf (effectiveChips cs s.cfg.chipmask) d
  refine ⟨regs, hregsWf, hwrite.trans hunpack, fun c hc m => ?_⟩
  rw [hregs, hstored c hc]
  rfl

end Sys2Proof.Machine
end

section
/-! Register accesses that the checks of 40_register_access.md R170 and R180 stop: each is one event of the log, or on V2 the
refusal of R173. -/

namespace Sys2Proof.Machine

/-! ### The paths of an encoded access -/

/-- A transaction encoded as a register write takes the write path with some handler (40_register_access.md R170). -/
theorem exec_eq_regWrite {i : Instr} {n : RegNum} {cs : ChipSet} {d : Word} (h : encode i = regRequest n (.write cs d)) :
    ∃ handler, ∀ s, exec i s = regWrite n cs d handler s := by
  rcases runsOn_of_encode h with ⟨handler, hstored⟩ | ⟨-, value, hcomputed⟩
  · exact ⟨handler, hstored⟩
  · exact ⟨fun _ _ s => .next s, hcomputed⟩

/-- A transaction encoded as a register read takes the read path with some value (40_register_access.md R180). -/
theorem exec_eq_regRead {i : Instr} {n : RegNum} (h : encode i = regRequest n .read) :
    ∃ value, ∀ s, exec i s = regRead n value s := by
  rcases runsOn_of_encode h with ⟨_, hstored⟩ | ⟨-, value, hcomputed⟩
  · exact ⟨fun s => s.fbiReg n, hstored⟩
  · exact ⟨value, hcomputed⟩

/-- Settles O6: a transaction and a reserved number both take the write path, which drops a write without the W flag. -/
theorem writeWithoutPermissionLogged : Obligations.WriteWithoutPermissionLogged := by
  intro n cs d s hdescribed hw
  refine ⟨fun i hencode => ?_, fun q hdecode => ?_⟩
  · obtain ⟨handler, hexec⟩ := exec_eq_regWrite hencode
    exact (hexec s).trans (regWrite_of_not_writable hdescribed hw)
  · exact (runRequest_of_decode_reserved hdecode).trans (regWrite_of_not_writable hdescribed hw)

/-- Settles O9: a transaction and a reserved number both take the read path, which answers all ones without the R flag. -/
theorem readWithoutPermissionLogged : Obligations.ReadWithoutPermissionLogged := by
  intro n s hr
  refine ⟨fun i hencode => ?_, fun q hdecode => ?_⟩
  · obtain ⟨value, hexec⟩ := exec_eq_regRead hencode
    exact (hexec s).trans (regRead_of_not_readable hr)
  · exact (runRequest_of_decode_reserved hdecode).trans (regRead_of_not_readable (value := fun s => s.fbiReg n) hr)

/-! ### Writes without a chip, and writes that R173 refuses -/

/-- A write that selects no present chip is logged and dropped (40_register_access.md R172). -/
theorem regWrite_of_no_chip {n : RegNum} {cs : ChipSet} {d : Word} {handler : ChipSet → Word → State → Out} {s : State}
    (hdescribed : undescribed s.cfg.gen n = false) (hw : (accessFlags s.cfg.gen n).w = true)
    (hchips : effectiveChips cs s.cfg.chipmask = 0#4) :
    regWrite n cs d handler s = .next { s with log := s.log ++ [.chipDisabled n] } := by
  simp [regWrite, hdescribed, hw, hchips, dropWrite, logEvent]

/-- Settles O7: the third check of the write path drops the write. -/
theorem emptyChipSetLogged : Obligations.EmptyChipSetLogged := by
  intro n cs d s i hencode hdescribed hw hchips
  obtain ⟨handler, hexec⟩ := exec_eq_regWrite hencode
  exact (hexec s).trans (regWrite_of_no_chip hdescribed hw hchips)

/-- A write to a register that the model does not describe refuses (40_register_access.md R173). -/
theorem regWrite_of_undescribed {n : RegNum} {cs : ChipSet} {d : Word} {handler : ChipSet → Word → State → Out}
    {s : State} (h : undescribed s.cfg.gen n = true) : regWrite n cs d handler s = .refused (.undescribedRegister n) := by
  simp [regWrite, h]

/-- The command-FIFO registers are accesses to a store-only register. -/
theorem undescribedRows_exec : ∀ row ∈ undescribedRows, ∀ a s, exec (row.instr a) s = storedReg row.num storeOnly a s :=
  exec_of_rows (run := fun row : RegRow => storedReg row.num storeOnly) rfl

/-- R173 refuses the command-FIFO and the blitter numbers on V2, and on V1 they carry no W flag (10_state.md R30). -/
theorem undescribed_nums :
    (∀ row ∈ undescribedRows, undescribed .v2 row.num = true ∧ (accessFlags .v1 row.num).w = false) ∧
      ∀ n : RegNum, n.extractLsb' 4 4 = 0xB#4 → undescribed .v2 n = true ∧ (accessFlags .v1 n).w = false := by
  decide

/-- Settles O8: the first check of the write path refuses on V2; on V1 the second one drops the write. -/
theorem undescribedWritesRefused : Obligations.UndescribedWritesRefused := by
  intro i n cs d s hi
  obtain ⟨hrows, hblt⟩ := undescribed_nums
  have hreg : (undescribed .v2 n = true ∧ (accessFlags .v1 n).w = false) ∧
      exec i s = storedReg n storeOnly (.write cs d) s := by
    rcases hi with ⟨row, hrow, rfl, rfl⟩ | ⟨rfl, hn⟩
    · exact ⟨hrows row hrow, undescribedRows_exec row hrow _ s⟩
    · exact ⟨hblt n hn, rfl⟩
  obtain ⟨⟨hrefused, hw⟩, hexec⟩ := hreg
  rw [hexec]
  cases hgen : s.cfg.gen with
  | v1 => exact regWrite_of_not_writable (by rw [hgen]; rfl) (by rw [hgen]; exact hw)
  | v2 => exact regWrite_of_undescribed (by rw [hgen]; exact hrefused)

/-! ### Reads -/

/-- Settles O10: a register read has one of two outcomes, an LFB read answers its value, and a texture read is logged. -/
theorem readsChangeNothingElse : Obligations.ReadsChangeNothingElse := by
  intro i s hkind
  rcases instr_cases i with ⟨n, a, hencode, -⟩ | ⟨l, d, rfl⟩ | ⟨l, rfl⟩ | ⟨unit, lod, row, sword, d, rfl⟩ |
    ⟨unit, lod, row, sword, rfl⟩
  case inl =>
    cases a with
    | write cs d => rw [hencode] at hkind; cases hkind
    | read =>
      obtain ⟨value, hexec⟩ := exec_eq_regRead hencode
      rcases regRead_cases n value s with ⟨-, hread⟩ | ⟨-, hread⟩
      · exact .inl ⟨value s, (hexec s).trans hread⟩
      · exact .inr ⟨.readNotAllowed n, (hexec s).trans hread⟩
  case inr.inl => cases hkind
  case inr.inr.inl => exact .inl ⟨lfbReadValue l s, rfl⟩
  case inr.inr.inr.inl => cases hkind
  case inr.inr.inr.inr => exact .inr ⟨.texReadUnsupported (texWordOffset unit lod row sword), rfl⟩

end Sys2Proof.Machine
end

section
/-! Writes to stored registers (40_register_access.md R174 to R179, R187 to R189): the store and then the handler of the
register, whose effect each row list of the claims states. -/

namespace Sys2Proof.Machine

/-! ### Registers that both generations or V2 alone let be written -/

/-- Register `n` has the W flag, on V1 only when `v2only` is false, and R173 names it in neither generation (10_state.md
R30). -/
@[reducible] def Writable (n : RegNum) (v2only : Bool) : Prop :=
  undescribed .v2 n = false ∧ (accessFlags .v2 n).w = true ∧ (v2only = false → (accessFlags .v1 n).w = true)

/-- In a generation that has the register, a write passes the first two checks of 40_register_access.md R170. -/
theorem Writable.flags {n : RegNum} {v2only : Bool} (h : Writable n v2only) {gen : Gen}
    (hgen : v2only = true → gen = .v2) : undescribed gen n = false ∧ (accessFlags gen n).w = true := by
  obtain ⟨hdescribed, hw2, hw1⟩ := h
  cases gen with
  | v1 => exact ⟨rfl, hw1 (Bool.eq_false_iff.2 fun hv => by cases hgen hv)⟩
  | v2 => exact ⟨hdescribed, hw2⟩

/-- Outside the init registers nothing else stops the write but an empty chip set. -/
theorem Writable.openWrite {n : RegNum} {v2only : Bool} (h : Writable n v2only ∧ isInitReg n = false) {gen : Gen}
    (hgen : v2only = true → gen = .v2) : OpenWrite gen n := by
  obtain ⟨hwritable, hinit⟩ := h
  obtain ⟨hdescribed, hw⟩ := hwritable.flags hgen
  exact ⟨hdescribed, hw, hinit⟩

/-- A write to a row of a list of registers: the store, and then the list's handler. -/
theorem exec_write_of_rows {rows : List RegRow} {handler : RegNum → ChipSet → Word → State → Out}
    (hnum : ∀ row ∈ rows, Writable row.num row.v2only ∧ isInitReg row.num = false)
    (hexec : (rows.map fun row a => exec (row.instr a)) = rows.map fun row => storedReg row.num (handler row.num)) :
    ∀ row ∈ rows, ∀ (cs : ChipSet) (d : Word) (s : State), tableWf 0 s.regs = true → row.Open s cs →
      ∃ regs, SlotsStored s.regs regs (effectiveChips cs s.cfg.chipmask) row.num d ∧
        exec (row.instr (.write cs d)) s =
          handler row.num (effectiveChips cs s.cfg.chipmask) d { s with regs := regs } := by
  intro row hrow cs d s hwf ⟨hgen, hchips⟩
  rw [exec_of_rows hexec row hrow]
  exact storedReg_write_of_open (Writable.openWrite (hnum row hrow) hgen) hwf hchips

/-- Settles O20: the handler of a store-only register changes nothing. -/
theorem storeOnlyWrites : Obligations.StoreOnlyWrites :=
  exec_write_of_rows (handler := fun _ => storeOnly) (by decide) rfl

/-- Settles O22: the setup-vertex data registers are store-only registers; a setup vertex is taken by sDrawTriCMD. -/
theorem setupDataWrites : Obligations.SetupDataWrites :=
  exec_write_of_rows (handler := fun _ => storeOnly) (by decide) rfl

/-- Settles O25: the handler of a timing register emits the event. -/
theorem videoTimingWrites : Obligations.VideoTimingWrites :=
  exec_write_of_rows (handler := timingWrite) (by decide) rfl

/-- A TMU register write marks each TMU of the chip set (40_register_access.md R178). -/
theorem tmuRegWrite_eq (chips : ChipSet) (d : Word) (s : State) :
    tmuRegWrite chips d s = .next { s with
      tmu0 := if chips.getLsbD 1 then { s.tmu0 with dirty := true } else s.tmu0
      tmu1 := if chips.getLsbD 2 then { s.tmu1 with dirty := true } else s.tmu1 } := by
  rw [tmuRegWrite, updateTmus_eq]
  rfl

/-- Settles O26: the store, and the mark on each TMU of the chip set. -/
theorem tmuRegisterWrites : Obligations.TmuRegisterWrites := by
  intro row hrow cs d s hwf hopen chips
  obtain ⟨regs, hstored, hwrite⟩ :=
    exec_write_of_rows (rows := tmuRegRows) (handler := fun _ => tmuRegWrite) (by decide) rfl row hrow cs d s hwf hopen
  exact ⟨regs, hstored, hwrite.trans (tmuRegWrite_eq _ _ _)⟩

/-! ### The fog table -/

/-- What any index reads after a write of two neighbours. -/
theorem readTable_writeTable_pair {α : Type} [DecidableEq α] {d : α} {t : Table α} (h : tableWf d t = true) (a : Nat)
    (v w : α) (j : Nat) :
    readTable d (writeTable d (writeTable d t a v) (a + 1) w) j =
      if j = a then v else if j = a + 1 then w else readTable d t j := by
  rw [readTable_writeTable (tableWf_writeTable h), readTable_writeTable h]
  by_cases hj : j = a
  · rw [if_neg (by omega), if_pos hj, if_pos hj]
  · rw [if_neg hj, if_neg hj]

/-- The fog-table registers are stored registers with the handler of their index. -/
theorem fogRowsByIndex_exec : ∀ row ∈ fogRowsByIndex, ∀ a s,
    exec (row.instr a) s = storedReg row.num (fogTableWrite row.index) a s :=
  exec_of_rows (run := fun row : FogRow => storedReg row.num (fogTableWrite row.index)) rfl

/-- Settles O21: the store, then the two neighbouring entries in each of the two halves of the fog table. -/
theorem fogTableWrites : Obligations.FogTableWrites := by
  intro row hrow cs d s hwf hdelta hblend hchips
  have hnum : ∀ row ∈ fogRowsByIndex, Writable row.num false ∧ isInitReg row.num = false := by decide
  obtain ⟨regs, hstored, hwrite⟩ := storedReg_write_of_open (handler := fogTableWrite row.index) (d := d)
    (Writable.openWrite (hnum row hrow) nofun) hwf hchips
  exact ⟨regs, _, _, hstored, (fogRowsByIndex_exec row hrow _ s).trans hwrite,
    readTable_writeTable_pair hdelta _ _ _, readTable_writeTable_pair hblend _ _ _⟩

/-! ### The memory-layout registers -/

/-- The handler of a memory-layout register: fbiInit0 and fbiInit4 are stored only (log entry 44). -/
def initHandler (n : RegNum) : ChipSet → Word → State → Out :=
  if n = 0x84 ∨ n = 0x80 then storeOnly else initWrite

/-- The memory-layout registers are stored registers with these handlers. -/
theorem initRegRows_exec : ∀ row ∈ initRegRows, ∀ a s,
    exec (row.instr a) s = storedReg row.num (initHandler row.num) a s :=
  exec_of_rows (run := fun row : RegRow => storedReg row.num (initHandler row.num)) rfl

/-- An init-register write without INIT_ENABLE is logged and dropped (40_register_access.md R176). -/
theorem regWrite_of_init_disabled {n : RegNum} {cs : ChipSet} {d : Word} {handler : ChipSet → Word → State → Out}
    {s : State} (hdescribed : undescribed s.cfg.gen n = false) (hw : (accessFlags s.cfg.gen n).w = true)
    (hchips : effectiveChips cs s.cfg.chipmask ≠ 0#4) (hinit : isInitReg n = true) (henable : s.cfg.initEnable = false) :
    regWrite n cs d handler s = .next { s with log := s.log ++ [.initDisabled n] } := by
  simp [regWrite, hdescribed, hw, hchips, hinit, henable, dropWrite, logEvent]

/-- Settles O24: without INIT_ENABLE the last check of the write path drops the write; with it the store is all for fbiInit0
and fbiInit4, and the others recompute the layout from the registers that the store left. -/
theorem initRegisterWrites : Obligations.InitRegisterWrites := by
  intro row hrow cs d s hwf ⟨hgen, hchips⟩
  have hnum : ∀ row ∈ initRegRows, Writable row.num row.v2only ∧ isInitReg row.num = true := by decide
  obtain ⟨hwritable, hinit⟩ := hnum row hrow
  obtain ⟨hdescribed, hw⟩ := hwritable.flags hgen
  have hexec := initRegRows_exec row hrow (.write cs d) s
  refine ⟨fun henable => hexec.trans (regWrite_of_init_disabled hdescribed hw hchips hinit henable), fun henable => ?_⟩
  refine ⟨_, slotsStored_storeChips hwf, ?_⟩
  rw [hexec, storedReg_write hdescribed hw hchips (.inr henable), storeChips_frame, initHandler]
  dsimp only
  split
  · rfl
  · exact congrArg Host.Outcome.next (relayout_eq _)

/-! ### The NCC registers -/

/-- The tables of a sound NCC table are canonical (10_state.md R63). -/
theorem NccTable.wf_of_sound {n : NccTable} (h : n.sound = true) :
    tableWf 0 n.y = true ∧ tableWf ⟨0, 0, 0⟩ n.i = true ∧ tableWf ⟨0, 0, 0⟩ n.q = true := by
  simp only [NccTable.sound, Bool.and_eq_true] at h
  obtain ⟨⟨⟨⟨⟨⟨hy, -⟩, hi⟩, -⟩, hq⟩, -⟩, -⟩ := h
  exact ⟨hy, hi, hq⟩

/-- The palette of a sound TMU is canonical (10_state.md R64). -/
theorem Tmu.palette_wf_of_sound {t : Tmu} {b : Nat} (h : t.sound b = true) : tableWf 0 t.palette = true := by
  simp only [Tmu.sound, Bool.and_eq_true] at h
  obtain ⟨⟨⟨⟨-, hpalette⟩, -⟩, -⟩, -⟩ := h
  exact hpalette

/-- What any index reads after a write of the four bytes of a word from index `4 * k` (10_state.md R56). -/
theorem readTable_write_bytes {t : Table Byte} (h : tableWf 0 t = true) (k : Nat) (d : Word) (j : Nat) :
    readTable 0 (writeTable 0 (writeTable 0 (writeTable 0 (writeTable 0 t (4 * k) (field d 0 8)) (4 * k + 1) (field d 8 8))
      (4 * k + 2) (field d 16 8)) (4 * k + 3) (field d 24 8)) j =
      if j / 4 = k then d.extractLsb' (8 * (j % 4)) 8 else readTable 0 t j := by
  have h0 : tableWf 0 (writeTable 0 t (4 * k) (field d 0 8)) = true := tableWf_writeTable h
  have h1 := tableWf_writeTable (a := 4 * k + 1) (v := field d 8 8) h0
  have h2 := tableWf_writeTable (a := 4 * k + 2) (v := field d 16 8) h1
  rw [readTable_writeTable h2, readTable_writeTable h1, readTable_writeTable h0, readTable_writeTable h]
  by_cases hj : j / 4 = k
  · rw [if_pos hj]
    have hbyte : j % 4 = 0 ∨ j % 4 = 1 ∨ j % 4 = 2 ∨ j % 4 = 3 := by omega
    rcases hbyte with hr | hr | hr | hr <;> rw [hr]
    · rw [if_neg (by omega), if_neg (by omega), if_neg (by omega), if_pos (by omega)]; rfl
    · rw [if_neg (by omega), if_neg (by omega), if_pos (by omega)]; rfl
    · rw [if_neg (by omega), if_pos (by omega)]; rfl
    · rw [if_pos (by omega)]; rfl
  · rw [if_neg hj, if_neg (by omega), if_neg (by omega), if_neg (by omega), if_neg (by omega)]

/-- Coefficient word `k` as the claims state it: four `Y` below word 4, an `I` below word 8, else a `Q` (10_state.md R56). -/
theorem nccCoefficient_stored {n : NccTable} (h : n.sound = true) {k : Nat} (hk : k < 12) (d : Word) :
    NccStored n (nccCoefficient k d n) k d := by
  obtain ⟨hy, hi, hq⟩ := NccTable.wf_of_sound h
  unfold nccCoefficient
  split
  · next hk4 =>
    refine ⟨rfl, rfl, fun j _ => readTable_write_bytes hy k d j, fun j hj => ?_, fun j hj => ?_⟩
    · rw [if_neg (by omega)]; rfl
    · rw [if_neg (by omega)]; rfl
  · next hk4 =>
    split
    · next hk8 =>
      have hindex : ∀ j, j = k - 4 ↔ j + 4 = k := fun j => by omega
      refine ⟨rfl, rfl, fun j hj => ?_, fun j hj => ?_, fun j hj => ?_⟩
      · rw [if_neg (by omega)]; rfl
      · simp only [NccTable.iAt, readTable_writeTable hi, hindex]; rfl
      · rw [if_neg (by omega)]; rfl
    · next hk8 =>
      have hindex : ∀ j, j = k - 8 ↔ j + 8 = k := fun j => by omega
      refine ⟨rfl, rfl, fun j hj => ?_, fun j hj => ?_, fun j hj => ?_⟩
      · rw [if_neg (by omega)]; rfl
      · rw [if_neg (by omega)]; rfl
      · simp only [NccTable.qAt, readTable_writeTable hq, hindex]; rfl

/-- The palette form of an NCC write, as the claims state it (40_register_access.md R179). -/
theorem isPaletteWrite_iff {table : Bool} {k : Nat} {d : Word} :
    isPaletteWrite table k d = true ↔ table = false ∧ 4 ≤ k ∧ d.getLsbD 31 = true := by
  simp [isPaletteWrite, bit, and_assoc]

/-- A write to an NCC register leaves a TMU as the claims state it (40_register_access.md R179). -/
theorem nccWriteTmu_written {row : NccRow} (hword : row.word < 12) {t : Tmu} {b : Nat} (h : t.sound b = true) (d : Word) :
    NccWritten t (nccWriteTmu row.table row.word d t) row d := by
  unfold NccWritten nccWriteTmu
  by_cases hpalette : row.table = false ∧ 4 ≤ row.word ∧ d.getLsbD 31 = true
  · rw [if_pos hpalette, if_pos (isPaletteWrite_iff.2 hpalette)]
    exact ⟨_, rfl, fun _ => readTable_writeTable (Tmu.palette_wf_of_sound h)⟩
  · rw [if_neg hpalette, if_neg fun hwrite => hpalette (isPaletteWrite_iff.1 hwrite)]
    have hstored : NccStored (t.ncc row.table) (nccCoefficient row.word d (t.ncc row.table)) row.word d :=
      nccCoefficient_stored (ncc_sound h row.table) hword d
    cases htable : row.table with
    | false => rw [htable] at hstored; exact ⟨_, rfl, hstored⟩
    | true => rw [htable] at hstored; exact ⟨_, rfl, hstored⟩

/-- The NCC registers are stored registers with the handler of their table and word. -/
theorem nccRows_exec : ∀ row ∈ nccRows, ∀ a s,
    exec (row.instr a) s = storedReg row.num (nccWrite row.table row.word) a s :=
  exec_of_rows (run := fun row : NccRow => storedReg row.num (nccWrite row.table row.word)) rfl

/-- Settles O27: the store, then the palette entry or coefficient word in each TMU of the chip set. -/
theorem nccRegisterWrites : Obligations.NccRegisterWrites := by
  intro row hrow cs d s hwf h0 h1 hchips chips
  have hnum : ∀ row ∈ nccRows, (Writable row.num false ∧ isInitReg row.num = false) ∧ row.word < 12 := by decide
  obtain ⟨hwritable, hword⟩ := hnum row hrow
  obtain ⟨regs, hstored, hwrite⟩ := storedReg_write_of_open (handler := nccWrite row.table row.word) (d := d)
    (Writable.openWrite hwritable nofun) hwf hchips
  have hexec := (nccRows_exec row hrow _ s).trans hwrite
  rw [nccWrite, updateTmus_eq] at hexec
  refine ⟨regs, _, _, hstored, hexec, ?_, ?_⟩
  · split
    · exact nccWriteTmu_written hword h0 d
    · rfl
  · split
    · exact nccWriteTmu_written hword h1 d
    · rfl

end Sys2Proof.Machine
end

section
/-! Reads of the registers (40_register_access.md R180 to R186): a readable register answers its slot, or a value computed
from the state. -/

namespace Sys2Proof.Machine

/-- Register `n` has the R flag, on V1 only when `v2only` is false (10_state.md R30). -/
@[reducible] def Readable (n : RegNum) (v2only : Bool) : Prop :=
  (accessFlags .v2 n).r = true ∧ (v2only = false → (accessFlags .v1 n).r = true)

/-- In a generation that lets the register be read, a read answers its value (40_register_access.md R180). -/
theorem regRead_of_readable {n : RegNum} {v2only : Bool} (h : Readable n v2only) {s : State}
    (hgen : v2only = true → s.cfg.gen = .v2) (value : State → Word) :
    regRead n value s = .next { s with readData := value s } := by
  have hr : (accessFlags s.cfg.gen n).r = true := by
    obtain ⟨hr2, hr1⟩ := h
    cases hg : s.cfg.gen with
    | v1 => exact hr1 (Bool.eq_false_iff.2 fun hv => by cases hg.symm.trans (hgen hv))
    | v2 => exact hr2
  rcases regRead_cases n value s with ⟨-, hread⟩ | ⟨hr', -⟩
  · exact hread
  · rw [hr] at hr'; cases hr'

/-- A read of a row of a list of registers answers the value that the list gives the row. -/
theorem exec_read_of_rows {β : Type} {rows : List β} {instr : β → RegAccess → Instr} (num : β → RegNum)
    {v2only : β → Bool} {value : β → State → Word} (hnum : ∀ row ∈ rows, Readable (num row) (v2only row))
    (hexec : (rows.map fun row => exec (instr row .read)) = rows.map fun row => regRead (num row) (value row)) :
    ∀ row ∈ rows, ∀ s : State, (v2only row = true → s.cfg.gen = .v2) →
      exec (instr row .read) s = .next { s with readData := value row s } := by
  intro row hrow s hgen
  have hread : exec (instr row .read) s = regRead (num row) (value row) s :=
    congrFun (List.map_inj_left.1 hexec row hrow) s
  exact hread.trans (regRead_of_readable (hnum row hrow) hgen (value row))

/-- Slot `n` of the register file is register `n` of the FBI (10_state.md R21). -/
theorem fbiReg_eq (s : State) (n : RegNum) : s.fbiReg n = readTable 0 s.regs n.toNat := by
  rw [State.fbiReg, State.slot, slotOf, Nat.mul_zero, Nat.zero_add]

/-- Settles O28: whatever a plain register's write does, its read takes the FBI slot. -/
theorem plainRegisterReads : Obligations.PlainRegisterReads := by
  intro row hrow s hgen
  have hread : exec (row.instr .read) s = .next { s with readData := s.fbiReg row.num } :=
    exec_read_of_rows (rows := plainReadRows) RegRow.num (value := fun row s => s.fbiReg row.num) (by decide) rfl
      row hrow s hgen
  rw [hread, fbiReg_eq]

/-- The constant bits of status and its two fields do not overlap (40_register_access.md R183). -/
theorem statusValue_fields : ∀ (vblank : Bool) (front : Fin 3),
    0x0FFFF03F#32 ||| (if vblank then 0x40#32 else 0#32) ||| (BitVec.ofNat 32 front.val <<< 10) =
      0x3F#32 ||| ((if vblank then 1#32 else 0#32) <<< 6) ||| (BitVec.ofNat 32 front.val <<< 10) |||
        (0xFFFF#32 <<< 12) := by
  decide

/-- Settles O29: status is readable in both generations, and its value is put together from its fields. -/
theorem statusReads : Obligations.StatusReads := by
  intro s
  have hreadable : Readable 0x00 false := by decide
  calc exec (.status .read) s = regRead 0x00 statusValue s := rfl
    _ = .next { s with readData := statusValue s } := regRead_of_readable hreadable nofun statusValue
    _ = _ := by rw [statusValue, statusValue_fields]

/-- The number of a counter register, from its transactions' requests (30_encoding.md R131). -/
def CounterRow.num (row : CounterRow) : RegNum := (encode (row.instr .read)).addr.extractLsb' 2 8

/-- A counter has no bits above its 24 (10_state.md R47). -/
theorem counterValue_masked (c : BitVec 24) : counterValue c = c.setWidth 32 &&& 0x00FFFFFF#32 := by
  have hmask : c.toNat &&& 0x00FFFFFF = c.toNat % 2 ^ 24 := Nat.and_two_pow_sub_one_eq_mod c.toNat 24
  have hlt : c.toNat < 2 ^ 24 := c.isLt
  have hwide : c.toNat % 2 ^ 32 = c.toNat := Nat.mod_eq_of_lt (by omega)
  apply BitVec.eq_of_toNat_eq
  calc (counterValue c).toNat = c.toNat % 2 ^ 32 := BitVec.toNat_setWidth 32 c
    _ = c.toNat % 2 ^ 32 &&& 0x00FFFFFF := by rw [hwide, hmask, Nat.mod_eq_of_lt hlt]
    _ = (c.setWidth 32 &&& 0x00FFFFFF#32).toNat := by rw [BitVec.toNat_and, BitVec.toNat_setWidth]; rfl

/-- Settles O30: each counter is computed on read from its field of the statistics. -/
theorem counterReads : Obligations.CounterReads := by
  intro row hrow s hgen
  have hread : exec (row.instr .read) s = .next { s with readData := counterValue (row.count s.stats) } :=
    exec_read_of_rows (rows := counterRows) CounterRow.num (value := fun row s => counterValue (row.count s.stats))
      (by decide) rfl row hrow s hgen
  rw [hread, counterValue_masked]

/-- Settles O31: vRetrace is readable in both generations, the other two on V2. -/
theorem retraceAndHistoryReads : Obligations.RetraceAndHistoryReads := by
  intro s
  have hvRetrace : Readable 0x81 false := by decide
  have hhvRetrace : Readable 0x90 true := by decide
  have hhistory : Readable 0x96 true := by decide
  exact ⟨regRead_of_readable hvRetrace nofun vRetraceValue, fun hgen =>
    ⟨regRead_of_readable hhvRetrace (fun _ => hgen) hvRetraceValue,
      regRead_of_readable hhistory (fun _ => hgen) fun s => s.swap.history⟩⟩

end Sys2Proof.Machine
end

section
/-! Texture accesses that change no texture memory (42_texture.md R290, R254; 40_register_access.md R182). -/

namespace Sys2Proof.Machine

/-- A unit field that names no TMU, or an absent one (42_texture.md R290). -/
theorem presentUnit_eq_none {mask : ChipSet} {unit : BitVec 2} (h0 : unit = 0 → mask.getLsbD 1 = false)
    (h1 : unit = 1 → mask.getLsbD 2 = false) : presentUnit mask unit = none := by
  have hno0 : ¬ (unit = 0#2 ∧ bit mask 1 = true) := fun ⟨hunit, hbit⟩ =>
    Bool.false_ne_true ((h0 hunit).symm.trans hbit)
  have hno1 : ¬ (unit = 1#2 ∧ bit mask 2 = true) := fun ⟨hunit, hbit⟩ =>
    Bool.false_ne_true ((h1 hunit).symm.trans hbit)
  rw [presentUnit, if_neg hno0, if_neg hno1]

/-- A unit field that names a present TMU (42_texture.md R290). -/
theorem presentUnit_eq_some {mask : ChipSet} {unit : BitVec 2} {u : TmuId}
    (hunit : (unit = 0 ∧ u = .t0) ∨ (unit = 1 ∧ u = .t1)) (hpresent : mask.getLsbD (chipOf u) = true) :
    presentUnit mask unit = some u := by
  rcases hunit with ⟨rfl, rfl⟩ | ⟨rfl, rfl⟩
  · exact if_pos ⟨rfl, hpresent⟩
  · exact (if_neg fun h => absurd h.1 (by decide)).trans (if_pos ⟨rfl, hpresent⟩)

/-- Settles O55: the first three outcomes of a texture write in their order, and the one outcome of a texture read. -/
theorem textureAccessDropped : Obligations.TextureAccessDropped := by
  intro unit lod row sword d s
  refine ⟨fun h0 h1 => ?noUnit, fun u hunit hpresent => ⟨fun hgen hdirect => ?direct, fun hdirect hlod => ?badLod⟩, rfl⟩
  case noUnit => simp [exec, execTexWr, textureWrite, presentUnit_eq_none h0 h1, dropWrite, logEvent]
  case direct => simp [exec, execTexWr, textureWrite, presentUnit_eq_some hunit hpresent, hgen, hdirect]
  case badLod =>
    have hno : ¬ (s.cfg.gen = .v2 ∧ tlDirectWrite (s.tLOD u) = true) := fun ⟨hgen, hset⟩ => by
      simp [hdirect hgen] at hset
    simp [exec, execTexWr, textureWrite, presentUnit_eq_some hunit hpresent, hno, hlod, dropWrite, logEvent]

end Sys2Proof.Machine
end

section
/-! The coverage of a triangle (41_triangle.md R241): it is a function of the vertices in any order of rising Y, and the
integer quotients of the model are the roundings of R241 in exact rationals. -/

namespace Sys2Proof.Machine

/-! ### Sorting the vertices -/

/-- The vertices as R241 names them: A, B, C. -/
def FbiIter.vertices (f : FbiIter) : List Vertex :=
  [⟨f.vax.toInt, f.vay.toInt⟩, ⟨f.vbx.toInt, f.vby.toInt⟩, ⟨f.vcx.toInt, f.vcy.toInt⟩]

/-- From the smaller Y to the larger. -/
def RisingY (l : List Vertex) : Prop := l.Pairwise fun p q => p.y ≤ q.y

theorem insertByY_perm (v : Vertex) (l : List Vertex) : (insertByY v l).Perm (v :: l) := by
  induction l with
  | nil => exact .refl _
  | cons w l ih =>
    unfold insertByY
    split
    · exact .refl _
    · exact (ih.cons w).trans (.swap v w l)

theorem insertByY_risingY {v : Vertex} {l : List Vertex} (h : RisingY l) : RisingY (insertByY v l) := by
  induction l with
  | nil => exact List.pairwise_singleton _ v
  | cons w l ih =>
    obtain ⟨hw, hl⟩ := List.pairwise_cons.1 h
    unfold insertByY
    split
    · next hvw =>
      refine List.pairwise_cons.2 ⟨fun q hq => ?_, h⟩
      rcases List.mem_cons.1 hq with rfl | hq
      · exact hvw.le
      · exact hvw.le.trans (hw q hq)
    · next hvw =>
      refine List.pairwise_cons.2 ⟨fun q hq => ?_, ih hl⟩
      rcases List.mem_cons.1 ((insertByY_perm v l).mem_iff.1 hq) with rfl | hq
      · exact not_lt.1 hvw
      · exact hw q hq

theorem sortedVertices_perm (f : FbiIter) : (sortedVertices f).Perm f.vertices := by
  have hinsert : (sortedVertices f).Perm f.vertices.reverse :=
    (insertByY_perm _ _).trans ((insertByY_perm _ _).cons _)
  exact hinsert.trans (List.reverse_perm _)

theorem sortedVertices_risingY (f : FbiIter) : RisingY (sortedVertices f) :=
  insertByY_risingY (insertByY_risingY (List.pairwise_singleton _ _))

/-! ### Any order of rising Y -/

/-- The spans of three vertices of rising Y (41_triangle.md R241). -/
def spansOf (v1 v2 v3 : Vertex) : List Span :=
  if v1.y = v3.y then []
  else (intRange (max (roundSixteenth v1.y) (-4096)) (min (roundSixteenth v3.y) 4096)).map (spanOf v1 v2 v3)

/-- Vertices of one height cover nothing. -/
theorem spansOf_flat {v1 v2 v3 : Vertex} (h : v1.y = v3.y) : spansOf v1 v2 v3 = [] := if_pos h

/-- Two upper vertices of one height: the exchange makes the long edge the short one, and a span runs from the smaller
end to the larger. -/
theorem spansOf_swap_upper {v1 v2 : Vertex} (v3 : Vertex) (h : v1.y = v2.y) : spansOf v1 v2 v3 = spansOf v2 v1 v3 := by
  by_cases hflat : v1.y = v3.y
  · rw [spansOf_flat hflat, spansOf_flat (h ▸ hflat)]
  · have hspan : ∀ y, spanOf v1 v2 v3 y = spanOf v2 v1 v3 y := fun y => by
      have h32 : v3.y ≠ v2.y := h ▸ Ne.symm hflat
      simp only [spanOf, shortEdgeX, h, h32, ne_eq, not_true_eq_false, and_false, or_false, if_false, min_comm,
        max_comm]
    simp only [spansOf, h, funext hspan]

/-- Two lower vertices of one height, likewise. -/
theorem spansOf_swap_lower (v1 : Vertex) {v2 v3 : Vertex} (h : v2.y = v3.y) : spansOf v1 v2 v3 = spansOf v1 v3 v2 := by
  have hspan : ∀ y, spanOf v1 v2 v3 y = spanOf v1 v3 v2 y := fun y => by
    simp only [spanOf, shortEdgeX, h, or_true, if_true, min_comm, max_comm]
  simp only [spansOf, h, funext hspan]

/-- The orders of three vertices. -/
theorem mem_orders_of_perm {w1 w2 w3 v1 v2 v3 : Vertex} (h : [v1, v2, v3].Perm [w1, w2, w3]) :
    [v1, v2, v3] ∈ [[w1, w2, w3], [w2, w1, w3], [w2, w3, w1], [w1, w3, w2], [w3, w1, w2], [w3, w2, w1]] :=
  List.mem_permutations'.2 h

/-- Vertices of one height may change places, and no others can in an order of rising Y. -/
theorem spansOf_perm {w1 w2 w3 v1 v2 v3 : Vertex} (h : [v1, v2, v3].Perm [w1, w2, w3]) (hw : RisingY [w1, w2, w3])
    (hv : RisingY [v1, v2, v3]) : spansOf v1 v2 v3 = spansOf w1 w2 w3 := by
  simp only [RisingY, List.pairwise_cons, List.mem_cons, List.not_mem_nil, or_false, forall_eq_or_imp, forall_eq]
    at hw hv
  obtain ⟨⟨hw12, hw13⟩, hw23, -⟩ := hw
  obtain ⟨⟨hv12, hv13⟩, hv23, -⟩ := hv
  -- where the last vertex of one order comes first in the other, all heights are equal
  have hflat : v1.y = v3.y → w1.y = w3.y → spansOf v1 v2 v3 = spansOf w1 w2 w3 := fun hv hw => by
    rw [spansOf_flat hv, spansOf_flat hw]
  have horders := mem_orders_of_perm h
  simp only [List.mem_cons, List.not_mem_nil, or_false, List.cons.injEq, and_true] at horders
  rcases horders with ⟨rfl, rfl, rfl⟩ | ⟨rfl, rfl, rfl⟩ | ⟨rfl, rfl, rfl⟩ | ⟨rfl, rfl, rfl⟩ | ⟨rfl, rfl, rfl⟩ |
    ⟨rfl, rfl, rfl⟩
  · rfl
  · exact spansOf_swap_upper _ (le_antisymm hv12 hw12)
  · exact hflat (by omega) (by omega)
  · exact spansOf_swap_lower _ (le_antisymm hv23 hw23)
  · exact hflat (by omega) (by omega)
  · exact hflat (by omega) (by omega)

/-- The coverage is that of the vertices in any order of rising Y (41_triangle.md R241). -/
theorem coverage_eq_spansOf {f : FbiIter} {v1 v2 v3 : Vertex} (h : f.vertices.Perm [v1, v2, v3])
    (hv : RisingY [v1, v2, v3]) : coverage f = spansOf v1 v2 v3 := by
  have hperm := (sortedVertices_perm f).trans h
  have hsorted := sortedVertices_risingY f
  obtain ⟨w1, w2, w3, hw⟩ := List.length_eq_three.1 hperm.length_eq
  rw [hw] at hperm hsorted
  calc coverage f = spansOf w1 w2 w3 := by unfold coverage; rw [hw]; rfl
    _ = spansOf v1 v2 v3 := spansOf_perm hperm hv hsorted

/-- The coverage does not depend on the order of the vertices (41_triangle.md R241). -/
theorem coverage_eq_of_perm {f g : FbiIter} (h : f.vertices.Perm g.vertices) : coverage f = coverage g := by
  have hsorted := sortedVertices_risingY g
  have hperm := sortedVertices_perm g
  obtain ⟨w1, w2, w3, hw⟩ := List.length_eq_three.1 hperm.length_eq
  rw [hw] at hsorted hperm
  rw [coverage_eq_spansOf hperm.symm hsorted, coverage_eq_spansOf (h.trans hperm.symm) hsorted]

/-! ### Spans as rationals -/

/-- `rnd(t)` of R241. -/
def rnd (t : ℚ) : Int := ⌊t + 1 / 2⌋

/-- The X, in pixels, at the centre of row `y`, of the line through `p` and `q` (41_triangle.md R241). -/
def edgeAt (y : Int) (p q : Vertex) : ℚ :=
  p.x / 16 + ((y + 1 / 2 : ℚ) - p.y / 16) * (q.x / 16 - p.x / 16) / (q.y / 16 - p.y / 16)

/-- An integer quotient rounds the rational one down. -/
theorem floor_intCast_div {n d : Int} (hd : 0 < d) : ⌊(n / d : ℚ)⌋ = n / d := by
  lift d to ℕ using hd.le
  exact Rat.floor_intCast_div_natCast n d

theorem roundSixteenth_eq (t : Int) : roundSixteenth t = rnd (t / 16) := by
  have hfrac : (t / 16 + 1 / 2 : ℚ) = ((t + 8 : Int) : ℚ) / (16 : Int) := by push_cast; ring
  rw [rnd, hfrac, floor_intCast_div (by decide), roundSixteenth]

theorem edgeX_eq {p q : Vertex} (h : p.y < q.y) (y : Int) : edgeX p q y = rnd (edgeAt y p q) := by
  have hpos : 0 < q.y - p.y := by omega
  have hne : (q.y - p.y : ℚ) ≠ 0 := by exact_mod_cast hpos.ne'
  have hfrac : edgeAt y p q + 1 / 2 =
      ((p.x * (q.y - p.y) + (16 * y + 8 - p.y) * (q.x - p.x) + 8 * (q.y - p.y) : Int) : ℚ) /
        ((16 * (q.y - p.y) : Int) : ℚ) := by
    have hden : (q.y / 16 - p.y / 16 : ℚ) = (q.y - p.y) / 16 := by ring
    rw [edgeAt, hden]
    push_cast
    field_simp
    ring
  rw [rnd, hfrac, floor_intCast_div (by omega), edgeX]

/-- The centre of row `y` lies above `v`. -/
theorem center_lt_iff (y : Int) (v : Vertex) : ((y : ℚ) + 1 / 2 < (v.y : ℚ) / 16) ↔ 16 * y + 8 < v.y := by
  rw [lt_div_iff₀ (by norm_num), show ((y : ℚ) + 1 / 2) * 16 = ((16 * y + 8 : Int) : ℚ) by push_cast; ring, Int.cast_lt]

/-- The short edge at the centre of a row: the upper one above `v2`, unless an edge is flat (41_triangle.md R241). -/
theorem shortEdgeX_eq {v1 v2 v3 : Vertex} (h12 : v1.y ≤ v2.y) (h23 : v2.y ≤ v3.y) (h13 : v1.y ≠ v3.y) (y : Int) :
    shortEdgeX v1 v2 v3 y = rnd (if ((y : ℚ) + 1 / 2 < (v2.y : ℚ) / 16 ∧ v2.y ≠ v1.y) ∨ v3.y = v2.y then edgeAt y v1 v2
      else edgeAt y v2 v3) := by
  rw [shortEdgeX]
  simp only [center_lt_iff]
  split
  · exact edgeX_eq (by omega) y
  · exact edgeX_eq (by omega) y

/-- A value cut at both ends, whichever end is cut first. -/
theorem clampInt_eq {lo hi : Int} (h : lo ≤ hi) (v : Int) : clampInt v lo hi = max lo (min v hi) := by
  unfold clampInt
  omega

theorem pairwise_lt_intRange (lo hi : Int) : (intRange lo hi).Pairwise (· < ·) :=
  List.pairwise_map.2 (List.pairwise_lt_range.imp fun h => by omega)

/-- The spans come row by row from the top. -/
theorem spansOf_pairwise (v1 v2 v3 : Vertex) : (spansOf v1 v2 v3).Pairwise fun p q => p.y < q.y := by
  unfold spansOf
  split
  · exact .nil
  · exact List.pairwise_map.2 (pairwise_lt_intRange _ _)

/-- The rows of the spans, and the ends of each. -/
theorem mem_spansOf {v1 v2 v3 : Vertex} {y a b : Int} :
    ⟨y, a, b⟩ ∈ spansOf v1 v2 v3 ↔
      v1.y ≠ v3.y ∧ roundSixteenth v1.y ≤ y ∧ y < roundSixteenth v3.y ∧ -4096 ≤ y ∧ y < 4096 ∧
      a = clampInt (min (edgeX v1 v3 y) (shortEdgeX v1 v2 v3 y)) (-4096) 4096 ∧
      b = clampInt (max (edgeX v1 v3 y) (shortEdgeX v1 v2 v3 y)) (-4096) 4096 := by
  unfold spansOf
  split
  · next h => simp [h]
  · next h =>
    simp only [List.mem_map, mem_intRange, spanOf, Span.mk.injEq, max_le_iff, lt_min_iff]
    constructor
    · rintro ⟨r, ⟨⟨htop, hmin⟩, hbottom, hmax⟩, rfl, ha, hb⟩
      exact ⟨h, htop, hbottom, hmin, hmax, ha.symm, hb.symm⟩
    · rintro ⟨-, htop, hbottom, hmin, hmax, ha, hb⟩
      exact ⟨y, ⟨⟨htop, hmin⟩, hbottom, hmax⟩, rfl, ha.symm, hb.symm⟩

/-- Settles O41: the order does not matter among vertices of one height, and each integer quotient is its rounding. -/
theorem coverageByCenters : Obligations.CoverageByCenters := by
  refine ⟨fun f g h => ?order, fun f v1 v2 v3 h h12 h23 => ?spans⟩
  case order =>
    exact coverage_eq_of_perm (h.map fun p : Half × Half => (⟨p.1.toInt, p.2.toInt⟩ : Vertex))
  case spans =>
    have hv : RisingY [v1, v2, v3] := by simp [RisingY, h12, h23, h12.trans h23]
    rw [coverage_eq_spansOf h hv]
    refine ⟨spansOf_pairwise v1 v2 v3, fun y a b => mem_spansOf.trans (and_congr_right fun h13 => ?_)⟩
    rw [roundSixteenth_eq, roundSixteenth_eq, edgeX_eq (by omega), shortEdgeX_eq h12 h23 h13, clampInt_eq (by decide),
      clampInt_eq (by decide)]
    rfl

end Sys2Proof.Machine
end

section
/-! The setup of a triangle part by part (41_triangle.md R222): bit `i` of sSetupMode selects part `i`, the parts run in
the order of their bits, and an iterator holds what the last selected part that sets it has given it. -/

namespace Sys2Proof.Machine

/-! ### The parts of the setup -/

/-- The part that bit `i` of sSetupMode selects (41_triangle.md R222). -/
def setupPart (g : SetupGeometry) : Nat → State → State
  | 0 => setupColors g
  | 1 => setupAlpha g
  | 2 => setupDepth g
  | 3 => setupParam64 g (fun v => v.wb) putWAll
  | 4 => setupParam64 g (fun v => v.w0) putWTmus
  | 5 => setupCoords0 g
  | 6 => setupParam64 g (fun v => v.w1) putW1
  | 7 => setupCoords1 g
  | _ => id

/-- The selected ones of the first `n` parts. -/
def setupStage (mode : Word) (g : SetupGeometry) : Nat → State → State
  | 0, s => s
  | n + 1, s => applyIf (mode.getLsbD n) (setupPart g n) (setupStage mode g n s)

/-- The setup is its eight parts. -/
theorem setupParams_eq_stage (mode : Word) (g : SetupGeometry) (s : State) :
    setupParams mode g s = setupStage mode g 8 s := rfl

/-- What the selected parts from `m` on keep stands at the end as before part `m`. -/
theorem setupStage_keep {α : Type} {p : State → α} {mode : Word} {g : SetupGeometry} {m n : Nat} (hmn : m ≤ n)
    (s : State) (h : ∀ i, m ≤ i → mode.getLsbD i = true → ∀ u, p (setupPart g i u) = p u) :
    p (setupStage mode g n s) = p (setupStage mode g m s) := by
  induction n, hmn using Nat.le_induction with
  | base => rfl
  | succ n hmn ih =>
    cases hbit : mode.getLsbD n with
    | false => rw [setupStage, applyIf_off _ hbit, ih]
    | true => rw [setupStage, applyIf_on _ hbit, h n hmn hbit, ih]

theorem setupPart_setup (g : SetupGeometry) (i : Nat) (u : State) : (setupPart g i u).setup = u.setup := by
  unfold setupPart
  split <;> rfl

/-- The parts work on one setup buffer. -/
theorem setupStage_setup (mode : Word) (g : SetupGeometry) (i : Nat) (s : State) :
    (setupStage mode g i s).setup = s.setup :=
  setupStage_keep (p := State.setup) (Nat.zero_le i) s fun i _ _ => setupPart_setup g i

/-! ### The parts that set an iterator -/

/-- No part but those listed changes `p`. -/
def SetBy {α : Type} (p : State → α) (parts : List Nat) : Prop :=
  ∀ (g : SetupGeometry), ∀ i ∉ parts, ∀ u, p (setupPart g i u) = p u

section
variable {α : Type} {p : State → α} {parts : List Nat} {mode : Word} (h : SetBy p parts) (g : SetupGeometry) (s : State)
include h

/-- What no selected part sets is kept. -/
theorem SetBy.keep (hoff : ∀ i ∈ parts, mode.getLsbD i = false) : p (setupParams mode g s) = p s := by
  refine setupStage_keep (Nat.zero_le 8) s fun i _ hbit => h g i fun hi => ?_
  rw [hoff i hi] at hbit
  cases hbit

/-- What no later selected part sets is as part `i` leaves it. -/
theorem SetBy.last {i : Nat} (hi : i < 8) (hbit : mode.getLsbD i = true)
    (hoff : ∀ j ∈ parts, i < j → mode.getLsbD j = false) :
    p (setupParams mode g s) = p (setupPart g i (setupStage mode g i s)) := by
  rw [setupParams_eq_stage, setupStage_keep (p := p) hi s, setupStage, applyIf_on _ hbit]
  refine fun j hij hbit' => h g j fun hj => ?_
  rw [hoff j hj hij] at hbit'
  cases hbit'

end

/-- What no part outside a list changes, no such part changes in it. -/
theorem SetBy.map {α β : Type} {p : State → α} {parts : List Nat} (h : SetBy p parts) (f : α → β) :
    SetBy (fun t => f (p t)) parts :=
  fun g i hi u => congrArg f (h g i hi u)

/-- The iterators that one part sets together: the colours of the FBI, and S and T of a TMU. -/
def FbiIter.colors (f : FbiIter) : Grad32 × Grad32 × Grad32 := (f.r, f.g, f.b)
def Tmu.coords (t : Tmu) : Grad64 × Grad64 := (t.s, t.t)

theorem colors_setBy : SetBy (·.fbi.colors) [0] := fun g i hi u => by
  match i with
  | 1 | 2 | 3 | 4 | 5 | 6 | 7 | _ + 8 => rfl
  | 0 => exact absurd (by decide) hi

theorem alpha_setBy : SetBy (·.fbi.a) [1] := fun g i hi u => by
  match i with
  | 0 | 2 | 3 | 4 | 5 | 6 | 7 | _ + 8 => rfl
  | 1 => exact absurd (by decide) hi

theorem depth_setBy : SetBy (·.fbi.z) [2] := fun g i hi u => by
  match i with
  | 0 | 1 | 3 | 4 | 5 | 6 | 7 | _ + 8 => rfl
  | 2 => exact absurd (by decide) hi

theorem fbiW_setBy : SetBy (·.fbi.w) [3] := fun g i hi u => by
  match i with
  | 0 | 1 | 2 | 4 | 5 | 6 | 7 | _ + 8 => rfl
  | 3 => exact absurd (by decide) hi

theorem tmu0W_setBy : SetBy (·.tmu0.w) [3, 4] := fun g i hi u => by
  match i with
  | 0 | 1 | 2 | 5 | 6 | 7 | _ + 8 => rfl
  | 3 | 4 => exact absurd (by decide) hi

theorem tmu1W_setBy : SetBy (·.tmu1.w) [3, 4, 6] := fun g i hi u => by
  match i with
  | 0 | 1 | 2 | 5 | 7 | _ + 8 => rfl
  | 3 | 4 | 6 => exact absurd (by decide) hi

theorem tmu0Coords_setBy : SetBy (·.tmu0.coords) [5] := fun g i hi u => by
  match i with
  | 0 | 1 | 2 | 3 | 4 | 6 | 7 | _ + 8 => rfl
  | 5 => exact absurd (by decide) hi

theorem tmu1Coords_setBy : SetBy (·.tmu1.coords) [5, 7] := fun g i hi u => by
  match i with
  | 0 | 1 | 2 | 3 | 4 | 6 | _ + 8 => rfl
  | 5 | 7 => exact absurd (by decide) hi

theorem red_setBy : SetBy (·.fbi.r) [0] := colors_setBy.map (·.1)
theorem green_setBy : SetBy (·.fbi.g) [0] := colors_setBy.map (·.2.1)
theorem blue_setBy : SetBy (·.fbi.b) [0] := colors_setBy.map (·.2.2)
theorem tmu0S_setBy : SetBy (·.tmu0.s) [5] := tmu0Coords_setBy.map (·.1)
theorem tmu0T_setBy : SetBy (·.tmu0.t) [5] := tmu0Coords_setBy.map (·.2)
theorem tmu1S_setBy : SetBy (·.tmu1.s) [5, 7] := tmu1Coords_setBy.map (·.1)
theorem tmu1T_setBy : SetBy (·.tmu1.t) [5, 7] := tmu1Coords_setBy.map (·.2)

/-! ### The parameters of the buffer's triangle -/

/-- The geometry of the buffer's triangle (41_triangle.md R222). -/
def SetupBuffer.geometry (buf : SetupBuffer) : SetupGeometry := setupGeometry buf.v0 buf.v1 buf.v2

section
variable {parts : List Nat} {mode : Word} {q : SetupVertex → Word} {i : Nat} (s : State) (hi : i < 8)
  (hbit : mode.getLsbD i = true) (hoff : ∀ j ∈ parts, i < j → mode.getLsbD j = false)
include hi hbit hoff

/-- A 32-bit iterator that part `i`, selected and not followed by another, sets to `Param(q, 4096.0)`. -/
theorem SetBy.param12 {p : State → Grad32} (h : SetBy p parts)
    (hpart : ∀ u : State, u.setup.Param12 q (p (setupPart u.setup.geometry i u))) :
    s.setup.Param12 q (p (setupParams mode s.setup.geometry s)) := by
  have hpart := hpart (setupStage mode s.setup.geometry i s)
  rwa [setupStage_setup, ← h.last _ _ hi hbit hoff] at hpart

/-- A 64-bit iterator likewise, with `Param(q, 2^32)`. -/
theorem SetBy.param32 {p : State → Grad64} (h : SetBy p parts)
    (hpart : ∀ u : State, u.setup.Param32 q (p (setupPart u.setup.geometry i u))) :
    s.setup.Param32 q (p (setupParams mode s.setup.geometry s)) := by
  have hpart := hpart (setupStage mode s.setup.geometry i s)
  rwa [setupStage_setup, ← h.last _ _ hi hbit hoff] at hpart

end

/-- The selected iterators hold the parameters of the buffer's triangle (41_triangle.md R222). -/
theorem setupParams_paramsSet (mode : Word) (s : State) :
    (setupParams mode s.setup.geometry s).ParamsSet mode s.setup := by
  refine ⟨fun h0 => ⟨?_, ?_, ?_⟩, fun h1 => ?_, fun h2 => ?_, fun h3 => ⟨?_, fun h4 => ⟨?_, fun h6 => ?_⟩⟩,
    fun h4 => ⟨?_, fun h6 => ?_⟩, fun h5 => ⟨?_, ?_, fun h7 => ⟨?_, ?_⟩⟩, fun h6 => ?_, fun h7 => ⟨?_, ?_⟩⟩
  · exact red_setBy.param12 s (by decide) h0 (by simp) fun _ => param32_is _ _ _
  · exact green_setBy.param12 s (by decide) h0 (by simp) fun _ => param32_is _ _ _
  · exact blue_setBy.param12 s (by decide) h0 (by simp) fun _ => param32_is _ _ _
  · exact alpha_setBy.param12 s (by decide) h1 (by simp) fun _ => param32_is _ _ _
  · exact depth_setBy.param12 s (by decide) h2 (by simp) fun _ => param32_is _ _ _
  · exact fbiW_setBy.param32 s (by decide) h3 (by simp) fun _ => param64_is _ _ _
  · exact tmu0W_setBy.param32 s (by decide) h3 (by simpa using h4) fun _ => param64_is _ _ _
  · exact tmu1W_setBy.param32 s (by decide) h3 (by simpa using And.intro h4 h6) fun _ => param64_is _ _ _
  · exact tmu0W_setBy.param32 s (by decide) h4 (by simp) fun _ => param64_is _ _ _
  · exact tmu1W_setBy.param32 s (by decide) h4 (by simpa using h6) fun _ => param64_is _ _ _
  · exact tmu0S_setBy.param32 s (by decide) h5 (by simp) fun _ => param64_is _ _ _
  · exact tmu0T_setBy.param32 s (by decide) h5 (by simp) fun _ => param64_is _ _ _
  · exact tmu1S_setBy.param32 s (by decide) h5 (by simpa using h7) fun _ => param64_is _ _ _
  · exact tmu1T_setBy.param32 s (by decide) h5 (by simpa using h7) fun _ => param64_is _ _ _
  · exact tmu1W_setBy.param32 s (by decide) h6 (by simp) fun _ => param64_is _ _ _
  · exact tmu1S_setBy.param32 s (by decide) h7 (by simp) fun _ => param64_is _ _ _
  · exact tmu1T_setBy.param32 s (by decide) h7 (by simp) fun _ => param64_is _ _ _

/-- Settles O45: the frame of the setup; each iterator by the parts that set it. -/
theorem unselectedSetupFieldsKept : Obligations.UnselectedSetupFieldsKept := by
  intro mode g s t
  refine ⟨setupParams_only mode g s, ?params, fun h0 => ?colors, fun h1 => ?alpha, fun h2 => ?depth, fun h3 => ?w,
    fun h5 => ?coords, fun h3 h4 => ?wShared, fun h4 h6 => ?w0Shared, fun h5 h7 => ?coordsShared⟩
  case params =>
    intro hg
    subst hg
    exact setupParams_paramsSet mode s
  case colors =>
    exact ⟨red_setBy.keep g s (by simpa), green_setBy.keep g s (by simpa), blue_setBy.keep g s (by simpa)⟩
  case alpha => exact alpha_setBy.keep g s (by simpa)
  case depth => exact depth_setBy.keep g s (by simpa)
  case w =>
    exact ⟨fbiW_setBy.keep g s (by simpa), fun h4 => ⟨tmu0W_setBy.keep g s (by simpa using And.intro h3 h4), fun h6 =>
      tmu1W_setBy.keep g s (by simpa using And.intro h3 (And.intro h4 h6))⟩⟩
  case coords =>
    exact ⟨tmu0S_setBy.keep g s (by simpa), tmu0T_setBy.keep g s (by simpa), fun h7 =>
      ⟨tmu1S_setBy.keep g s (by simpa using And.intro h5 h7), tmu1T_setBy.keep g s (by simpa using And.intro h5 h7)⟩⟩
  case wShared =>
    have hfbi := fbiW_setBy.last g s (by decide) h3 (by simp)
    exact ⟨(tmu0W_setBy.last g s (by decide) h3 (by simpa using h4)).trans hfbi.symm, fun h6 =>
      (tmu1W_setBy.last g s (by decide) h3 (by simpa using And.intro h4 h6)).trans hfbi.symm⟩
  case w0Shared =>
    exact (tmu1W_setBy.last g s (by decide) h4 (by simpa using h6)).trans
      (tmu0W_setBy.last g s (by decide) h4 (by simp)).symm
  case coordsShared =>
    exact ⟨(tmu1S_setBy.last g s (by decide) h5 (by simpa using h7)).trans
        (tmu0S_setBy.last g s (by decide) h5 (by simp)).symm,
      (tmu1T_setBy.last g s (by decide) h5 (by simpa using h7)).trans
        (tmu0T_setBy.last g s (by decide) h5 (by simp)).symm⟩

end Sys2Proof.Machine
end

section
/-! The triangle commands (41_triangle.md R210 to R212, R220 to R223): each stores its word, and what a triangle reads is
the same after the store. -/

namespace Sys2Proof.Machine

/-! ### What a triangle reads -/

/-- The registers whose writes draw. -/
def drawRegs : List RegNum := [0x20, 0x40, 0xA8]

/-- `t` has the parameters, surfaces, buffer selection and cache of `s`, and its registers but those of `drawRegs`. -/
structure SameControls (s t : State) : Prop where
  cfg : t.cfg = s.cfg
  surf : t.surf = s.surf
  swap : t.swap = s.swap
  cacheStates : t.cacheStates = s.cacheStates
  slot : ∀ c, c < 4 → ∀ n, n ∉ drawRegs → t.slot (slotOf c n) = s.slot (slotOf c n)

/-- The store of a drawing command keeps what a triangle reads. -/
theorem SlotsStored.sameControls {s t : State} {chips : ChipSet} {n : RegNum} {d : Word}
    (h : SlotsStored s.regs t.regs chips n d) (hn : n ∈ drawRegs) (hcfg : t.cfg = s.cfg) (hsurf : t.surf = s.surf)
    (hswap : t.swap = s.swap) (hcache : t.cacheStates = s.cacheStates) : SameControls s t :=
  ⟨hcfg, hsurf, hswap, hcache, fun _ hc _ hm => h.other hc fun e => hm (e ▸ hn)⟩

namespace SameControls
variable {s t : State} (h : SameControls s t)
include h

theorem fbiReg {n : RegNum} (hn : n ∉ drawRegs) : t.fbiReg n = s.fbiReg n := h.slot 0 (by decide) n hn

theorem tmuReg (u : TmuId) {n : RegNum} (hn : n ∉ drawRegs) : t.tmuReg u n = s.tmuReg u n :=
  h.slot _ (by cases u <;> decide) n hn

theorem fbzMode : t.fbzMode = s.fbzMode := h.fbiReg (by decide)
theorem fbzColorPath : t.fbzColorPath = s.fbzColorPath := h.fbiReg (by decide)
theorem alphaMode : t.alphaMode = s.alphaMode := h.fbiReg (by decide)
theorem fogMode : t.fogMode = s.fogMode := h.fbiReg (by decide)
theorem fbiInit3 : t.fbiInit3 = s.fbiInit3 := h.fbiReg (by decide)
theorem textureMode (u : TmuId) : t.textureMode u = s.textureMode u := h.tmuReg u (by decide)
theorem tLOD (u : TmuId) : t.tLOD u = s.tLOD u := h.tmuReg u (by decide)
theorem tDetail (u : TmuId) : t.tDetail u = s.tDetail u := h.tmuReg u (by decide)
theorem texBaseAddr (u : TmuId) : t.texBaseAddr u = s.texBaseAddr u := h.tmuReg u (by decide)

theorem drawOffset : t.drawOffset = s.drawOffset := by
  simp only [State.drawOffset, State.frontOffset, State.backOffset, h.fbzMode, h.surf, h.swap]

theorem ntmu : t.ntmu = s.ntmu := by
  unfold State.ntmu State.tmusDisabled
  rw [h.fbzColorPath, h.fbiInit3, h.cfg]

theorem renderKey (n : Nat) : renderKey t n = renderKey s n := by
  simp only [Machine.renderKey, h.fbzColorPath, h.alphaMode, h.fogMode, h.fbzMode, h.textureMode]

theorem textureReady : t.textureReady ↔ s.textureReady := by
  simp only [State.textureReady, State.samples, State.separateFilter, State.formatReserved, State.levelsExist, h.ntmu,
    h.tLOD, h.tDetail, h.textureMode, h.cfg]

theorem cacheRoom : t.cacheRoom ↔ s.cacheRoom := by
  simp only [State.cacheRoom, h.ntmu, h.renderKey, h.cacheStates, h.cfg]

theorem derivedSound {u : TmuId} (htmu : t.tmu u = s.tmu u) : t.derivedSound u = s.derivedSound u := by
  have hderived : t.derived u = s.derived u := by
    simp only [State.derived, State.texBase, h.textureMode, h.tLOD, h.tDetail, h.texBaseAddr, h.cfg, htmu]
  rw [State.derivedSound, State.derivedSound, hderived, htmu]

end SameControls

/-- A triangle without a draw surface does nothing (41_triangle.md R212; 43_pixel.md R301). -/
theorem triangle_of_drawOffset_none {s : State} (h : s.drawOffset = none) : triangle s = .next s := by
  rw [triangle, h]

/-! ### Direct triangles -/

/-- A direct triangle stores its word and its sign and runs the triangle (41_triangle.md R210, R211). -/
theorem exec_triangleRow {row : RegRow} (hrow : row ∈ triangleRows) {cs : ChipSet} (d : Word) {s : State}
    (hwf : tableWf 0 s.regs = true) (hchips : effectiveChips cs s.cfg.chipmask ≠ 0#4) :
    ∃ regs, SlotsStored s.regs regs (effectiveChips cs s.cfg.chipmask) row.num d ∧
      let stored : State := { s with regs := regs, fbi := { s.fbi with sign := d.getLsbD 31 } }
      exec (row.instr (.write cs d)) s = triangle stored ∧ SameControls s stored := by
  have hrows : ∀ row ∈ triangleRows, row.v2only = false ∧ row.num ∈ drawRegs := by decide
  obtain ⟨hv2only, hnum⟩ := hrows row hrow
  obtain ⟨regs, hstored, hexec⟩ := exec_write_of_rows (rows := triangleRows) (handler := fun _ => triangleWrite)
    (by decide) rfl row hrow cs d s hwf ⟨fun hv => absurd (hv2only.symm.trans hv) Bool.false_ne_true, hchips⟩
  exact ⟨regs, hstored, hexec, hstored.sameControls hnum rfl rfl rfl rfl⟩

/-- Settles O38: the store keeps the draw buffer, and without one the triangle does nothing. -/
theorem triangleWithoutBuffer : Obligations.TriangleWithoutBuffer := by
  intro row hrow cs d s hwf hchips hnone
  obtain ⟨regs, hstored, hexec, hsame⟩ := exec_triangleRow hrow d hwf hchips
  exact ⟨regs, hstored, hexec.trans (triangle_of_drawOffset_none (hsame.drawOffset.trans hnone))⟩

/-- A triangle completes when it reads what a state with a draw surface, ready units and room in the cache has. -/
theorem SameControls.triangle_ran {s t : State} {base : Nat} (h : SameControls s t) (hd : ∀ u, t.derivedSound u = true)
    (hbase : s.drawOffset = some base) (hready : s.textureReady) (hroom : s.cacheRoom) :
    ∃ r, triangle t = .next r ∧ t.TriangleRan base r :=
  Machine.triangle_ran (h.drawOffset.trans hbase) (hd .t0) (hd .t1) (h.textureReady.2 hready) (h.cacheRoom.2 hroom)

/-- Settles O39: the store keeps what the triangle reads, so the hypotheses under which a triangle completes. -/
theorem triangleDraws : Obligations.TriangleDraws := by
  intro row hrow cs d s base hinv hchips hbase hready hroom
  obtain ⟨regs, hstored, hexec, hsame⟩ := exec_triangleRow hrow d hinv.regsWf hchips
  have hd := fun u => (hsame.derivedSound (by cases u <;> rfl)).trans (hinv.derivedSound u)
  obtain ⟨t, hrun, hran⟩ := hsame.triangle_ran hd hbase hready hroom
  exact ⟨regs, t, hstored, hexec.trans hrun, hran⟩

/-! ### Setup vertices -/

/-- What a setup command reads from the registers is the same after its store, which is to none of them. -/
theorem SlotsStored.currentVertex {s t : State} {chips : ChipSet} {n : RegNum} {d : Word}
    (h : SlotsStored s.regs t.regs chips n d) (hn : n ∈ [0xA8, 0xA9]) :
    t.sSetupMode = s.sSetupMode ∧ t.currentVertex = s.currentVertex := by
  have hreg : ∀ m : RegNum, m ∉ [0xA8, 0xA9] → t.fbiReg m = s.fbiReg m := fun m hm =>
    h.other (by decide) fun e => hm (e ▸ hn)
  refine ⟨hreg 0x98 (by decide), ?_⟩
  unfold State.currentVertex
  congr 1 <;> exact hreg _ (by decide)

/-- Settles O42: the store, then the copy of the current vertex into the buffer. -/
theorem beginTriangleLoadsVertex : Obligations.BeginTriangleLoadsVertex := by
  intro cs d s hwf hgen hchips r v
  have hopen : OpenWrite s.cfg.gen 0xA9 := by rw [hgen]; exact ⟨rfl, rfl, rfl⟩
  obtain ⟨regs, hstored, hexec⟩ :=
    storedReg_write_of_open (handler := fun _ _ s => .next (beginTriangle s)) (d := d) hopen hwf hchips
  obtain ⟨-, hvertex⟩ := hstored.currentVertex (t := { s with regs := regs }) (by decide)
  refine ⟨regs, hstored, hexec.trans ?_⟩
  rw [beginTriangle, hvertex]
  rfl

/-- The state of sDrawTriCMD after its store and the vertex push (41_triangle.md R221). -/
def State.afterPush (s : State) (regs : Table Word) : State := { s with regs := regs, setup := s.pushed }

/-- The vertex push after the store of sDrawTriCMD, which keeps the registers it reads. -/
theorem pushVertex_stored {s : State} {regs : Table Word} {chips : ChipSet} {d : Word}
    (h : SlotsStored s.regs regs chips 0xA8 d) : pushVertex { s with regs := regs } = s.afterPush regs := by
  obtain ⟨hmode, hvertex⟩ := h.currentVertex (t := { s with regs := regs }) (by decide)
  rw [pushVertex, hmode, hvertex]
  rfl

/-- sDrawTriCMD stores its word, pushes the vertex, and sets up the triangle of three vertices (41_triangle.md R221 to
R223). -/
theorem exec_sDrawTriCMD {cs : ChipSet} (d : Word) {s : State} (hwf : tableWf 0 s.regs = true) (hgen : s.cfg.gen = .v2)
    (hchips : effectiveChips cs s.cfg.chipmask ≠ 0#4) :
    ∃ regs, SlotsStored s.regs regs (effectiveChips cs s.cfg.chipmask) 0xA8 d ∧
      exec (.sDrawTriCMD (.write cs d)) s =
        if 3 ≤ s.pushed.sverts then
          if culled s.cfg.cullOn s.sSetupMode s.pushed.sverts s.pushed.divisor then
            .next (setupPositions (s.afterPush regs))
          else triangle (s.setupDone regs)
        else .next (s.afterPush regs) := by
  have hopen : OpenWrite s.cfg.gen 0xA8 := by rw [hgen]; exact ⟨rfl, rfl, rfl⟩
  obtain ⟨regs, hstored, hexec⟩ :=
    storedReg_write_of_open (handler := fun _ _ s => drawTriangle s) (d := d) hopen hwf hchips
  obtain ⟨hmode, -⟩ := hstored.currentVertex (t := s.afterPush regs) (by decide)
  refine ⟨regs, hstored, hexec.trans ?_⟩
  simp only [drawTriangle, pushVertex_stored hstored, setupTriangle, hmode]
  rfl

/-- The vertices of a buffer beside the coordinates of the iterators (41_triangle.md R222). -/
def FbiIter.vertexPairs (f : FbiIter) (buf : SetupBuffer) : List (Word × Half) :=
  [(buf.v0.x, f.vax), (buf.v0.y, f.vay), (buf.v1.x, f.vbx), (buf.v1.y, f.vby), (buf.v2.x, f.vcx), (buf.v2.y, f.vcy)]

/-- Each coordinate is the conversion of its position (41_triangle.md R222). -/
theorem setupPositions_converts (s : State) :
    ∀ p ∈ (setupPositions s).fbi.vertexPairs s.setup, ∃ k, p.2 = (setupVertex p.1 k).value := by
  simp only [FbiIter.vertexPairs, List.forall_mem_cons, List.not_mem_nil, false_implies, implies_true, and_true]
  exact ⟨⟨_, rfl⟩, ⟨_, rfl⟩, ⟨_, rfl⟩, ⟨_, rfl⟩, ⟨_, rfl⟩, _, rfl⟩

theorem setupVertex_of_convert {f : Word} {c : Half} (h : convert32 16 (mul32 f f32Sixteen) = some c) (k : Nat) :
    (setupVertex f k).value = c := by
  rw [setupVertex, h]

/-- Settles O43: the push alone below three vertices; a culled triangle has its positions stored. -/
theorem drawPushesOrCulls : Obligations.DrawPushesOrCulls := by
  intro cs d s hwf hgen hchips
  obtain ⟨regs, hstored, hexec⟩ := exec_sDrawTriCMD d hwf hgen hchips
  refine ⟨regs, hstored, fun hfew => ?few, fun hthree hculled => ?culled⟩
  case few => exact hexec.trans (if_neg (by omega))
  case culled =>
    rw [if_pos hthree, if_pos hculled] at hexec
    refine ⟨_, _, _, _, _, _, _, hexec, fun p hp c hc => ?_⟩
    obtain ⟨k, hk⟩ := setupPositions_converts (s.afterPush regs) p hp
    exact hk.trans (setupVertex_of_convert hc k)

/-! ### Setup triangles -/

/-- The setup starts from the pushed buffer with its positions stored. -/
theorem setupDone_only (s : State) (regs : Table Word) :
    SetupOnly (setupPositions (s.afterPush regs)) (s.setupDone regs) :=
  setupParams_only _ _ _

/-- The setup keeps what the triangle reads (41_triangle.md R222). -/
theorem setupDone_sameControls {s : State} {regs : Table Word} {chips : ChipSet} {d : Word}
    (h : SlotsStored s.regs regs chips 0xA8 d) : SameControls s (s.setupDone regs) := by
  have honly := setupDone_only s regs
  have hregs : (s.setupDone regs).regs = regs := by rw [honly]; rfl
  exact SlotsStored.sameControls (by rwa [hregs]) (by decide) (by rw [honly]; rfl) (by rw [honly]; rfl)
    (by rw [honly]; rfl) (by rw [honly]; rfl)

theorem setupDone_derivedSound {s : State} {regs : Table Word} {chips : ChipSet} {d : Word} {u : TmuId}
    (h : SlotsStored s.regs regs chips 0xA8 d) (hd : s.derivedSound u = true) :
    (s.setupDone regs).derivedSound u = true := by
  have hsame : SameControls s (setupPositions (s.afterPush regs)) := h.sameControls (by decide) rfl rfl rfl rfl
  have hplaced := (hsame.derivedSound (u := u) (by cases u <;> rfl)).trans hd
  exact ((setupDone_only s regs).derivedSound u).2 hplaced

theorem setupDone_positionsSet (s : State) (regs : Table Word) : (s.setupDone regs).PositionsSet s.pushed := by
  have hpairs : (s.setupDone regs).fbi.vertexPairs s.pushed =
      (setupPositions (s.afterPush regs)).fbi.vertexPairs s.pushed := by
    rw [setupDone_only s regs]
    rfl
  intro p hp
  obtain ⟨k, hk⟩ := setupPositions_converts (s.afterPush regs) p (hpairs ▸ hp)
  rw [hk]
  exact setupVertex_truncates p.1 k

theorem setupDone_paramsSet (s : State) (regs : Table Word) : (s.setupDone regs).ParamsSet s.sSetupMode s.pushed :=
  setupParams_paramsSet s.sSetupMode (setupPositions (s.afterPush regs))

/-- Settles O44: the setup of the pushed buffer, and then the triangle, which reads what it would before the command. -/
theorem drawDrawsTriangle : Obligations.DrawDrawsTriangle := by
  intro cs d s hinv hgen hchips hthree hkept
  obtain ⟨regs, hstored, hexec⟩ := exec_sDrawTriCMD d hinv.regsWf hgen hchips
  rw [if_pos hthree, if_neg (Bool.eq_false_iff.1 hkept)] at hexec
  have hsame := setupDone_sameControls hstored
  refine ⟨regs, hstored, setupDone_positionsSet s regs, setupDone_paramsSet s regs, fun hnone => ?noBuffer,
    fun base hbase hready hroom => ?drawn⟩
  case noBuffer => exact hexec.trans (triangle_of_drawOffset_none (hsame.drawOffset.trans hnone))
  case drawn =>
    rw [hexec]
    exact hsame.triangle_ran (fun u => setupDone_derivedSound hstored (hinv.derivedSound u)) hbase hready hroom

end Sys2Proof.Machine
end

section
/-! The texture write that stores (42_texture.md R290 to R292): its four byte addresses are distinct, so each of
them reads the byte stored there whatever the order of the stores. -/

namespace Sys2Proof.Machine

/-- The wrapped addresses of the bytes of a word are distinct in a memory of four bytes or more (20_memory.md R105). -/
theorem texMask_add_ne {p : Params} {u : TmuId} (hbits : 2 ≤ texBits p u) (a : Nat) {i j : Nat} (hi : i < 4)
    (hj : j < 4) (hij : i ≠ j) : texMask p u (a + i) ≠ texMask p u (a + j) := by
  have hsize : 4 ≤ 2 ^ texBits p u := Nat.pow_le_pow_right (n := 2) two_pos hbits
  intro (h : a + i ≡ a + j [MOD 2 ^ texBits p u])
  exact hij (h.add_left_cancel'.eq_of_lt_of_lt (hi.trans_le hsize) (hj.trans_le hsize))

/-- What any byte of a unit's memory reads after a texture-memory write of a word (42_texture.md R291, R292). -/
theorem texWriteRam_read {p : Params} {u : TmuId} (a : Nat) (d : Word) {m : Memory} (hwf : m.wf = true)
    (hbits : 2 ≤ texBits p u) (b : Nat) :
    (texWriteRam p u a d m).read b =
      if b = texMask p u a then field d 0 8
      else if b = texMask p u (a + 1) then field d 8 8
      else if b = texMask p u (a + 2) then field d 16 8
      else if b = texMask p u (a + 3) then field d 24 8
      else m.read b := by
  have hne (i : Nat) {j : Nat} (hij : i < j ∧ j < 4) (h : b = texMask p u (a + i)) : b ≠ texMask p u (a + j) :=
    h ▸ texMask_add_ne hbits a (hij.1.trans hij.2) hij.2 hij.1.ne
  have hwf0 := Memory.wf_write (a := texMask p u a) (v := field d 0 8) hwf
  have hwf1 := Memory.wf_write (a := texMask p u (a + 1)) (v := field d 8 8) hwf0
  have hwf2 := Memory.wf_write (a := texMask p u (a + 2)) (v := field d 16 8) hwf1
  rw [texWriteRam, Memory.read_write hwf2, Memory.read_write hwf1, Memory.read_write hwf0, Memory.read_write hwf]
  by_cases h0 : b = texMask p u a
  · rw [if_neg (hne 0 (by decide) h0), if_neg (hne 0 (by decide) h0), if_neg (hne 0 (by decide) h0), if_pos h0, if_pos h0]
  by_cases h1 : b = texMask p u (a + 1)
  · rw [if_neg (hne 1 (by decide) h1), if_neg (hne 1 (by decide) h1), if_pos h1, if_neg h0, if_pos h1]
  by_cases h2 : b = texMask p u (a + 2)
  · rw [if_neg (hne 2 (by decide) h2), if_pos h2, if_neg h0, if_neg h1, if_pos h2]
  · rw [if_neg h2, if_neg h1, if_neg h0, if_neg h0, if_neg h1, if_neg h2]

/-- A texture write that no check stops brings the unit up to date and stores its word (42_texture.md R290). -/
theorem textureWrite_stores {unit : BitVec 2} {lod : BitVec 4} (row : Byte) (sword : BitVec 7) (d : Word) {s : State}
    {u : TmuId} (hunit : presentUnit s.cfg.chipmask unit = some u)
    (hdirect : s.cfg.gen = .v2 → tlDirectWrite (s.tLOD u) = false) (hlod : lod.toNat ≤ 8) :
    textureWrite unit lod row sword d s = .next (s.setTmu u { s.currentTmu u with
      ram := texWriteRam s.cfg u (texWriteAddr (s.setTmu u (s.currentTmu u)) u lod.toNat row.toNat sword.toNat)
        (texWriteData (s.tLOD u) d) (s.tmu u).ram }) := by
  rcases textureWrite_cases unit lod row sword d s with ⟨hnone, -⟩ | ⟨v, hv, hcases⟩
  · exact absurd (hnone.symm.trans hunit) (Option.some_ne_none u).symm
  · obtain rfl := Option.some.inj (hv.symm.trans hunit)
    rcases hcases with ⟨hgen, hset, -⟩ | ⟨hbad, -⟩ | ⟨-, hstored⟩
    · exact absurd ((hdirect hgen).symm.trans hset) Bool.false_ne_true
    · exact absurd hlod hbad.not_ge
    · exact hstored

/-- Settles O54: the write that no check stops, and its bytes at their distinct addresses. -/
theorem textureWriteStores : Obligations.TextureWriteStores := by
  intro unit lod row sword d s u hunit hpresent hdirect hlod hbits hwf
  exact ⟨_, textureWrite_stores row sword d (presentUnit_eq_some hunit hpresent) hdirect hlod,
    texWriteRam_read _ _ hwf hbits⟩

end Sys2Proof.Machine
end

section
/-! The exits of a pixel (43_pixel.md R302): each counts once, and all but the last leave memory alone. -/

namespace Sys2Proof.Machine

/-- Before its first test a pixel has counted in and stored nothing (43_pixel.md R302, R303). -/
theorem pixelEntry_stats_fbram (s : State) :
    (stippleStep (addPixelsIn 1 s)).stats = { s.stats with pixelsIn := s.stats.pixelsIn + 1 } ∧
      (stippleStep (addPixelsIn 1 s)).fbram = s.fbram :=
  ⟨stippleStep_stats _, stippleStep_fbram _⟩

/-- Settles O46: the five exits of `pixel_next`, each one counter away from the entry of the pixel. -/
theorem pixelCountsOneExit : Obligations.PixelCountsOneExit := by
  intro p s t h k
  obtain ⟨hstats, hfbram⟩ := pixelEntry_stats_fbram s
  refine ⟨(pixel_only h).1, ?_⟩
  rcases pixel_next h with rfl | rfl | rfl | rfl | ⟨c, rfl⟩
  · exact .inl ⟨hfbram, .inl (by rw [failStipple_stats, hstats])⟩
  · exact .inl ⟨hfbram, .inr (.inl (by rw [failZfunc_stats, hstats]))⟩
  · exact .inl ⟨hfbram, .inr (.inr (.inl (by rw [failChroma_stats, hstats])))⟩
  · exact .inl ⟨hfbram, .inr (.inr (.inr (by rw [failAfunc_stats, hstats])))⟩
  · exact .inr (by rw [writePixel_stats, hstats])

end Sys2Proof.Machine
end

section
/-! A pixel with every optional stage off (43_pixel.md R302, R320 to R322, R351): what each stage does when it is off, and
the write that is left. -/

namespace Sys2Proof.Machine

/-! ### Stages that are off -/

theorem stippleStep_of_off {s : State} (h : fbzStipple s.fbzMode = false) : stippleStep s = s := by
  simp [stippleStep, stippleRotates, h]

theorem stipplePass_of_off {s : State} (h : fbzStipple s.fbzMode = false) (x y : Int) : stipplePass s x y = true := by
  simp [stipplePass, h]

theorem depthPass_of_off {s : State} (h : fbzDepthBuf s.fbzMode = false) (x scry depth : Int) :
    depthPass s x scry depth = true := by
  simp [depthPass, h]

theorem chromaPass_of_off {s : State} (h : fbzChromaKey s.fbzMode = false) (c : Argb) : chromaPass s c = true := by
  simp [chromaPass, h]

theorem alphaMaskPass_of_off {s : State} (h : fbzAlphaMask s.fbzMode = false) (a : Int) : alphaMaskPass s a = true := by
  simp [alphaMaskPass, h]

theorem alphaPass_of_off {s : State} (h : alphaTestEnable s.alphaMode = false) (a : Int) : alphaPass s a = true := by
  simp [alphaPass, h]

theorem fog_of_off {s : State} (h : fogEnable s.fogMode = false) (p : PixelIn) (c : Argb) : fog s p c = c := by
  simp [fog, h]

theorem blend_of_off {s : State} (h : alphaBlendEnable s.alphaMode = false) (p : PixelIn) (c prefog : Argb) :
    blend s p c prefog = c := by
  simp [blend, h]

/-- Without an active unit the texel is black (42_texture.md R255). -/
theorem texturePipeline_of_ntmu_zero (s : State) (x y : Int) {i : TexIn} (h : i.ntmu = 0) :
    texturePipeline s x y i = .ok .black := by
  simp [texturePipeline, h]

/-! ### The combine with its fields all 0 -/

/-- The colour's channels lie in 0..255. -/
def Argb.InBytes (c : Argb) : Prop :=
  (0 ≤ c.a ∧ c.a ≤ 255) ∧ (0 ≤ c.r ∧ c.r ≤ 255) ∧ (0 ≤ c.g ∧ c.g ≤ 255) ∧ (0 ≤ c.b ∧ c.b ≤ 255)

/-- A multiplier of 0, inverted, is a factor of 256/256 (43_pixel.md R322). -/
theorem combineOutput_passThrough {v : Int} (h : 0 ≤ v ∧ v ≤ 255) (loc : Int) :
    combineOutput false (combineChannel false false false v loc 0 0) = v := by
  have hfactor : xorFF 0 + 1 = 256 := by decide
  simp [combineOutput, combineChannel, hfactor, sar, clampInt, h]

theorem colorCombine_of_zero {s : State} (h : s.fbzColorPath = 0) {sel : Selected} (hother : sel.other.InBytes)
    (texel : Argb) : colorCombine s sel texel = sel.other := by
  obtain ⟨ha, hr, hg, hb⟩ := hother
  have hctl : colorCombineCtl s.fbzColorPath = ⟨false, false, false, 0, false, false, false, false, 0, false⟩ := by
    rw [h]; decide
  have hmultiplier : cpMSelect s.fbzColorPath = 0 := by rw [h]; decide
  have halphaMultiplier : cpAlphaMSelect s.fbzColorPath = 0 := by rw [h]; decide
  simp [colorCombine, combine, hctl, hmultiplier, halphaMultiplier, colorMenu, colorAlphaMenu,
    combineOutput_passThrough, ha, hr, hg, hb]

/-- With the select fields 0 the other colour is the iterated one; a bypassed combine takes it too (43_pixel.md R320). -/
theorem select_other_of_zero {s : State} (h : s.fbzColorPath = 0) (p : PixelIn) (texel : Argb) :
    (select s p texel).other = p.iter := by
  have hrgb : cpRgbSelect s.fbzColorPath = 0 := by rw [h]; decide
  have halpha : cpASelect s.fbzColorPath = 0 := by rw [h]; decide
  unfold select
  split
  · rfl
  · simp [selectOther, hrgb, halpha]

theorem combinedColor_of_zero {s : State} (h : s.fbzColorPath = 0) {p : PixelIn} (hiter : p.iter.InBytes)
    (texel : Argb) : combinedColor s p (select s p texel) texel = p.iter := by
  have hother := select_other_of_zero h p texel
  unfold combinedColor
  split
  · rfl
  · rw [colorCombine_of_zero h (hother ▸ hiter), hother]

/-! ### All stages off -/

/-- What the fields of fbzMode, alphaMode, fogMode and fbzColorPath are with every test and optional stage off. -/
structure State.StagesOff (s : State) : Prop where
  stipple : fbzStipple s.fbzMode = false
  depthBuf : fbzDepthBuf s.fbzMode = false
  chromaKey : fbzChromaKey s.fbzMode = false
  alphaMask : fbzAlphaMask s.fbzMode = false
  alphaTest : alphaTestEnable s.alphaMode = false
  alphaBlend : alphaBlendEnable s.alphaMode = false
  fog : fogEnable s.fogMode = false
  colorPath : s.fbzColorPath = 0

/-- The controls are registers, which counting a pixel leaves alone. -/
theorem State.StagesOff.addPixelsIn {s : State} (h : s.StagesOff) (k : Nat) : (addPixelsIn k s).StagesOff :=
  ⟨h.stipple, h.depthBuf, h.chromaKey, h.alphaMask, h.alphaTest, h.alphaBlend, h.fog, h.colorPath⟩

theorem shadePixel_of_off {s : State} (h : s.StagesOff) {p : PixelIn} (hiter : p.iter.InBytes) (depth : Int)
    (texel : Argb) : shadePixel p depth texel s = writePixel p p.iter depth s := by
  simp [shadePixel, chromaPass_of_off h.chromaKey, alphaMaskPass_of_off h.alphaMask, alphaPass_of_off h.alphaTest,
    fog_of_off h.fog, blend_of_off h.alphaBlend, combinedColor_of_zero h.colorPath hiter]

/-! ### The write that is left -/

@[simp] theorem addPixelsIn_fbzMode (k : Nat) (s : State) : (addPixelsIn k s).fbzMode = s.fbzMode := rfl

theorem writeColor_addPixelsIn (p : PixelIn) (c : Argb) (k : Nat) (s : State) :
    writeColor p c (addPixelsIn k s) = addPixelsIn k (writeColor p c s) := by
  rw [writeColor, writeColor, addPixelsIn_fbzMode, apply_ite (addPixelsIn k)]
  rfl

theorem writeAux_addPixelsIn (p : PixelIn) (a depth : Int) (k : Nat) (s : State) :
    writeAux p a depth (addPixelsIn k s) = addPixelsIn k (writeAux p a depth s) := by
  rw [writeAux, writeAux, addPixelsIn_surf, addPixelsIn_fbzMode]
  cases s.surf.aux with
  | none => rfl
  | some aux =>
    dsimp only
    rw [apply_ite (addPixelsIn k)]
    rfl

/-- Counting in and the write of a pixel do not touch the same state. -/
theorem writePixel_addPixelsIn (p : PixelIn) (c : Argb) (depth : Int) (k : Nat) (s : State) :
    writePixel p c depth (addPixelsIn k s) = addPixelsIn k (writePixel p c depth s) := by
  rw [writePixel, writeColor_addPixelsIn, writeAux_addPixelsIn]
  rfl

theorem pixel_of_off {s : State} (h : s.StagesOff) {p : PixelIn} (htex : p.tex.ntmu = 0) (hiter : p.iter.InBytes) :
    pixel p s = .next (addPixelsIn 1 (writePixel p p.iter (depthValue s p.z p.w) s)) := by
  have hin := h.addPixelsIn 1
  have hdepth : depthValue (addPixelsIn 1 s) p.z p.w = depthValue s p.z p.w := rfl
  simp [pixel, stippleStep_of_off hin.stipple, stipplePass_of_off hin.stipple, depthPass_of_off hin.depthBuf,
    texturePipeline_of_ntmu_zero _ _ _ htex, shadePixel_of_off hin hiter, hdepth, writePixel_addPixelsIn]

theorem writeColor_regs (p : PixelIn) (c : Argb) (s : State) : (writeColor p c s).regs = s.regs := by
  unfold writeColor; split <;> rfl

theorem writeAux_regs (p : PixelIn) (a depth : Int) (s : State) : (writeAux p a depth s).regs = s.regs := by
  unfold writeAux; split
  · rfl
  · split <;> rfl

/-- The write counts out and changes no register (43_pixel.md R351). -/
theorem writePixel_frame (p : PixelIn) (c : Argb) (depth : Int) (s : State) :
    writePixel p c depth s =
      { s with
        stats := { s.stats with pixelsOut := s.stats.pixelsOut + 1 }
        fbram := (writePixel p c depth s).fbram } := by
  have hregs : (writePixel p c depth s).regs = s.regs := (writeAux_regs _ _ _ _).trans (writeColor_regs _ _ _)
  have hframe := (writePixel_only p c depth s).1
  rwa [hregs, writePixel_stats] at hframe

theorem writePixel_fbram_of_aux_none {s : State} (haux : s.surf.aux = none) (p : PixelIn) (c : Argb) (depth : Int) :
    (writePixel p c depth s).fbram = (writeColor p c s).fbram := by
  have hwritten : (writeColor p c s).surf.aux = none := by rw [(writeColor_only p c s).surf, haux]
  simp [writePixel, writeAux, hwritten]

/-- The aux write is decided and addressed as before the colour write (43_pixel.md R351). -/
theorem writePixel_fbram_of_aux_some {s : State} {aux : Nat} (haux : s.surf.aux = some aux) (p : PixelIn) (c : Argb)
    (depth : Int) :
    (writePixel p c depth s).fbram =
      if fbzAuxMask s.fbzMode = true ∧ p.auxWrite = true then
        (fbWrite16 (pixelAddr s aux p.scry p.x) (BitVec.ofInt 16 (if fbzAlphaPlanes s.fbzMode then c.a else depth))
          (writeColor p c s)).fbram
      else (writeColor p c s).fbram := by
  have hcolor := writeColor_only p c s
  have hwritten : (writeColor p c s).surf.aux = some aux := by rw [hcolor.surf, haux]
  simp only [writePixel, addPixelsOut_fbram, writeAux, hwritten, hcolor.fbzMode, hcolor.pixelAddr]
  split <;> rfl

/-- Settles O47: the pixel is its write, counted in, and the write is that of the colour, then of the aux value. -/
theorem plainPixelStoresIteratedColor : Obligations.PlainPixelStoresIteratedColor := by
  intro p s hstipple hdepth hchroma hmask htest hblend hfog hcolorPath htex ha hr hg hb
  have hoff : s.StagesOff := ⟨hstipple, hdepth, hchroma, hmask, htest, hblend, hfog, hcolorPath⟩
  refine ⟨_, pixel_of_off hoff htex ⟨ha, hr, hg, hb⟩, ?frame, ?stores⟩
  case frame =>
    conv_lhs => rw [writePixel_frame]
    rfl
  case stores =>
    rw [addPixelsIn_fbram]
    cases haux : s.surf.aux with
    | none => exact writePixel_fbram_of_aux_none haux ..
    | some aux => exact writePixel_fbram_of_aux_some haux ..

end Sys2Proof.Machine
end

section
/-! The floating 4.12 depth encoding (43_pixel.md R304). -/

namespace Sys2Proof.Machine

/-- The high half of a word is 0 exactly below 2^16. -/
theorem field_high_eq_zero_iff (v : Word) : field v 16 16 = 0 ↔ v.toNat < 2 ^ 16 := by
  have hlt := v.isLt
  rw [← BitVec.toNat_inj, field, BitVec.extractLsb'_toNat, Nat.shiftRight_eq_div_pow]
  show v.toNat / 2 ^ 16 % 2 ^ 16 = 0 ↔ _
  omega

theorem float16_of_lt {v : Word} (h : v.toNat < 2 ^ 16) : float16 v = 0xFFFF := by
  rw [float16, if_pos ((field_high_eq_zero_iff v).2 h)]

/-- The leading one stands at bit `31 - e` when there are `e` leading zeros. -/
theorem clz32_eq {v : Word} {e : Nat} (he : e ≤ 31) (hlo : 2 ^ (31 - e) ≤ v.toNat) (hhi : v.toNat < 2 ^ (32 - e)) :
    clz32 v = e := by
  have hpos : v.toNat ≠ 0 := (Nat.two_pow_pos _).trans_le hlo |>.ne'
  have hne : v ≠ 0 := fun h => hpos (by rw [h]; rfl)
  have hlog : v.toNat.log2 = 31 - e :=
    (Nat.log2_eq_iff hpos).2 ⟨hlo, by rwa [show 31 - e + 1 = 32 - e by omega]⟩
  rw [clz32, if_neg hne, hlog]
  omega

/-- Twelve bits of the complement are the complement of the twelve bits. -/
theorem not_shiftRight_mod {v : Word} {k : Nat} (hk : k ≤ 19) :
    (~~~v >>> k).toNat % 2 ^ 12 = 4095 - v.toNat / 2 ^ k % 4096 := by
  have hcomplement : (~~~v).extractLsb' k 12 = ~~~(v.extractLsb' k 12) := by
    apply BitVec.extractLsb'_not_of_lt
    omega
  have hnat := congrArg BitVec.toNat hcomplement
  simpa [Nat.shiftRight_eq_div_pow] using hnat

theorem float16_of_leadingOne {v : Word} {e : Nat} (he : e ≤ 15) (hlo : 2 ^ (31 - e) ≤ v.toNat)
    (hhi : v.toNat < 2 ^ (32 - e)) :
    float16 v = min (e * 4096 + (4095 - v.toNat / 2 ^ (19 - e) % 4096) + 1) 0xFFFF := by
  have hbig : 2 ^ 16 ≤ v.toNat := (Nat.pow_le_pow_right (by decide) (by omega)).trans hlo
  have hhigh : field v 16 16 ≠ 0 := (field_high_eq_zero_iff v).not.2 hbig.not_gt
  rw [float16, if_neg hhigh, clz32_eq (by omega) hlo hhi]
  dsimp only
  rw [not_shiftRight_mod (by omega)]
  split <;> omega

/-- Every value of 2^16 and more has at most 15 leading zeros. -/
theorem exists_leadingOne {v : Word} (h : 2 ^ 16 ≤ v.toNat) :
    ∃ e ≤ 15, 2 ^ (31 - e) ≤ v.toNat ∧ v.toNat < 2 ^ (32 - e) := by
  have hpos : v.toNat ≠ 0 := by omega
  have hlow : 16 ≤ v.toNat.log2 := (Nat.le_log2 hpos).2 h
  have hhigh : v.toNat.log2 < 32 := (Nat.log2_lt hpos).2 v.isLt
  refine ⟨31 - v.toNat.log2, by omega, ?_, ?_⟩
  · rw [show 31 - (31 - v.toNat.log2) = v.toNat.log2 by omega]
    exact Nat.log2_self_le hpos
  · rw [show 32 - (31 - v.toNat.log2) = v.toNat.log2 + 1 by omega]
    exact Nat.lt_log2_self

/-- Among values with the same leading one, the twelve bits below it are ordered as the values. -/
theorem fraction_mono {n n' e : Nat} (he : e ≤ 15) (hlo : 2 ^ (31 - e) ≤ n) (hle : n ≤ n') (hhi : n' < 2 ^ (32 - e)) :
    n / 2 ^ (19 - e) % 4096 ≤ n' / 2 ^ (19 - e) % 4096 := by
  have hge : 4096 ≤ n / 2 ^ (19 - e) := by
    rw [Nat.le_div_iff_mul_le (Nat.two_pow_pos _)]
    rwa [show 31 - e = 12 + (19 - e) by omega, Nat.pow_add] at hlo
  have hlt : n' / 2 ^ (19 - e) < 8192 := by
    rw [Nat.div_lt_iff_lt_mul (Nat.two_pow_pos _)]
    rwa [show 32 - e = 13 + (19 - e) by omega, Nat.pow_add] at hhi
  have hdiv : n / 2 ^ (19 - e) ≤ n' / 2 ^ (19 - e) := Nat.div_le_div_right hle
  generalize n / 2 ^ (19 - e) = q at *
  generalize n' / 2 ^ (19 - e) = q' at *
  omega

theorem float16_le (v : Word) : float16 v ≤ 0xFFFF := by
  rcases Nat.lt_or_ge v.toNat (2 ^ 16) with hsmall | hbig
  · exact (float16_of_lt hsmall).le
  · obtain ⟨e, he, hlo, hhi⟩ := exists_leadingOne hbig
    rw [float16_of_leadingOne he hlo hhi]
    exact min_le_right ..

theorem float16_antitone {v v' : Word} (h : v.toNat ≤ v'.toNat) : float16 v' ≤ float16 v := by
  rcases Nat.lt_or_ge v.toNat (2 ^ 16) with hsmall | hbig
  · rw [float16_of_lt hsmall]
    exact float16_le v'
  obtain ⟨e, he, hlo, hhi⟩ := exists_leadingOne hbig
  obtain ⟨e', he', hlo', hhi'⟩ := exists_leadingOne (hbig.trans h)
  rw [float16_of_leadingOne he hlo hhi, float16_of_leadingOne he' hlo' hhi']
  have hexponent : e' ≤ e := by
    have := (Nat.pow_lt_pow_iff_right (a := 2) (by decide)).1 (hlo.trans_lt (h.trans_lt hhi'))
    omega
  rcases hexponent.lt_or_eq with hless | rfl
  · omega
  · have hfraction := fraction_mono he hlo h hhi'
    gcongr

/-- Settles O48: the code below 2^16, the code by the leading one, and the order. -/
theorem floatingDepthEncoding : Obligations.FloatingDepthEncoding :=
  ⟨fun _ h => float16_of_lt h, fun _ _ he hlo hhi => float16_of_leadingOne he hlo hhi, fun _ _ h => float16_antitone h⟩

end Sys2Proof.Machine
end

section
/-! The reduction to 5-6-5 (43_pixel.md R350). -/

namespace Sys2Proof.Machine

theorem matrixAt_lt {m : List Nat} {n : Nat} (hn : 0 < n) (hm : ∀ e ∈ m, e < n) (row col : Int) :
    matrixAt m row col < n := by
  unfold matrixAt
  rw [List.getD_eq_getElem?_getD]
  cases h : m[((row % 4) * 4 + col % 4).toNat]? with
  | none => exact hn
  | some e => exact hm e (List.mem_of_getElem? h)

/-- A dither value is less than one step of a reduced channel, which is 16. -/
theorem ditherSelect_lt (fbz : Word) (y x : Int) : ditherSelect fbz y x < 16 := by
  unfold ditherSelect
  split
  · exact matrixAt_lt (by decide) (by decide) y x
  · exact matrixAt_lt (by decide) (by decide) y x

/-- The half-word packed from a five-bit, a six-bit and a five-bit channel holds each in its field. -/
theorem pack565_toNat {r g b : Int} (hr : 0 ≤ r ∧ r < 32) (hg : 0 ≤ g ∧ g < 64) (hb : 0 ≤ b ∧ b < 32) :
    ((BitVec.ofInt 16 (r * 2 ^ 11 + g * 2 ^ 5 + b)).toNat : Int) = r * 2048 + g * 32 + b := by
  rw [BitVec.toNat_ofInt]
  omega

/-- A reduced five-bit channel, dithered by `k`, stays in its field and within one step of the top bits. -/
theorem dithered5_bounds {c k : Nat} (hc : c < 256) (hk : k < 16) :
    let d := sar ((c : Int) * 2 - sar c 4 + sar c 7 + k) 4
    (0 ≤ d ∧ d < 32) ∧ ((c / 8 : Nat) : Int) ≤ d + 1 ∧ d ≤ (c / 8 : Nat) + 1 := by
  simp only [sar]
  omega

/-- A reduced six-bit channel, dithered by `k`, stays in its field and within one step of the top bits. -/
theorem dithered6_bounds {c k : Nat} (hc : c < 256) (hk : k < 16) :
    let d := sar ((c : Int) * 4 - sar c 4 + sar c 6 + k) 4
    (0 ≤ d ∧ d < 64) ∧ ((c / 4 : Nat) : Int) ≤ d + 1 ∧ d ≤ (c / 4 : Nat) + 1 := by
  simp only [sar]
  omega

theorem reduce565_of_not_dithering {fbz : Word} (h : fbzDithering fbz = false) {r g b : Nat} (hr : r < 256)
    (hg : g < 256) (hb : b < 256) (a x y : Int) :
    (reduce565 fbz ⟨a, r, g, b⟩ x y).toNat = r / 8 * 2048 + g / 4 * 32 + b / 8 := by
  have hpack := pack565_toNat (r := sar r 3) (g := sar g 2) (b := sar b 3) (by unfold sar; omega) (by unfold sar; omega)
    (by unfold sar; omega)
  simp only [reduce565, h, Bool.false_eq_true, if_false]
  unfold sar at hpack ⊢
  omega

/-- The fields of a reduced colour, dithered or not: they are packed channels, each within one step. -/
theorem reduce565_channels (fbz : Word) {r g b : Nat} (hr : r < 256) (hg : g < 256) (hb : b < 256) (a x y : Int) :
    let h := (reduce565 fbz ⟨a, r, g, b⟩ x y).toNat
    (r / 8 ≤ h / 2048 + 1 ∧ h / 2048 ≤ r / 8 + 1) ∧ (g / 4 ≤ h / 32 % 64 + 1 ∧ h / 32 % 64 ≤ g / 4 + 1) ∧
      (b / 8 ≤ h % 32 + 1 ∧ h % 32 ≤ b / 8 + 1) := by
  cases hd : fbzDithering fbz with
  | false =>
    rw [reduce565_of_not_dithering hd hr hg hb]
    omega
  | true =>
    obtain ⟨hrField, hrStep⟩ := dithered5_bounds hr (ditherSelect_lt fbz y x)
    obtain ⟨hgField, hgStep⟩ := dithered6_bounds hg (ditherSelect_lt fbz y x)
    obtain ⟨hbField, hbStep⟩ := dithered5_bounds hb (ditherSelect_lt fbz y x)
    have hpack := pack565_toNat hrField hgField hbField
    simp only [reduce565, hd, if_true]
    omega

/-- Settles O49: the steps of the channels, and the exact value without dithering. -/
theorem reductionStaysInFields : Obligations.ReductionStaysInFields := by
  intro fbz r g b a x y hr hg hb h
  obtain ⟨hred, hgreen, hblue⟩ := reduce565_channels fbz hr hg hb a x y
  exact ⟨hred, hgreen, hblue, fun hd => reduce565_of_not_dithering hd hr hg hb a x y⟩

end Sys2Proof.Machine
end

section
/-! The commands that draw nothing and the swap (44_commands.md R360, R370 to R372). -/

namespace Sys2Proof.Machine

/-! ### The store of a command -/

/-- Both generations let the three command registers of 44_commands.md be written (10_state.md R30). -/
theorem openWrite_command (gen : Gen) : OpenWrite gen 0x48 ∧ OpenWrite gen 0x49 ∧ OpenWrite gen 0x4A := by
  cases gen <;> exact ⟨⟨rfl, rfl, rfl⟩, ⟨rfl, rfl, rfl⟩, ⟨rfl, rfl, rfl⟩⟩

/-! ### nopCMD -/

/-- nopCMD clears fields of the statistics, each on its bit (44_commands.md R360). -/
theorem nopWrite_eq (chips : ChipSet) (d : Word) (s : State) :
    nopWrite chips d s = .next { s with
      stats :=
        { pixelsIn := if d.getLsbD 0 then 0 else s.stats.pixelsIn
          chromaFail := if d.getLsbD 0 then 0 else s.stats.chromaFail
          zfuncFail := if d.getLsbD 0 then 0 else s.stats.zfuncFail
          afuncFail := if d.getLsbD 0 then 0 else s.stats.afuncFail
          pixelsOut := if d.getLsbD 0 then 0 else s.stats.pixelsOut
          trianglesOut := if d.getLsbD 1 then 0 else s.stats.trianglesOut
          clipFail := if d.getLsbD 0 then 0 else s.stats.clipFail
          stippleFail := if d.getLsbD 0 then 0 else s.stats.stippleFail } } := by
  unfold nopWrite bit
  cases d.getLsbD 0 <;> cases d.getLsbD 1 <;> rfl

/-- Settles O32: the store, then the clearing of the counters. -/
theorem nopClearsCounters : Obligations.NopClearsCounters := by
  intro cs d s hwf hchips k
  obtain ⟨hopen, -, -⟩ := openWrite_command s.cfg.gen
  obtain ⟨regs, hstored, hexec⟩ := storedReg_write_of_open (handler := nopWrite) (d := d) hopen hwf hchips
  exact ⟨regs, hstored, hexec.trans (nopWrite_eq _ _ _)⟩

/-! ### The buffers after a swap -/

/-- A swap that dontSwap keeps from moving the buffers (44_commands.md R371). -/
theorem swapBuffers_kept {s : State} (h : s.swap.dontSwap = true) :
    (swapBuffers s).swap.front = s.swap.front ∧ (swapBuffers s).swap.back = s.swap.back := by
  simp [swapBuffers, emit, h]

/-- Two colour surfaces are exchanged (44_commands.md R371). -/
theorem swapBuffers_exchange {s : State} (h : s.swap.dontSwap = false) (htwo : s.surf.rgb2 = none)
    (hfront : s.swap.front ≠ 2) :
    (swapBuffers s).swap.front = (if s.swap.front = 0 then 1 else 0) ∧ (swapBuffers s).swap.back = s.swap.front := by
  have hfin : ∀ f : Fin 3, f ≠ 2 → 1 - f = (if f = 0 then 1 else 0) ∧ 1 - (1 - f) = f := by decide
  simpa [swapBuffers, emit, h, htwo] using hfin s.swap.front hfront

/-- Of three colour surfaces each index names the next (44_commands.md R371). -/
theorem swapBuffers_rotate {s : State} (h : s.swap.dontSwap = false) (hthree : s.surf.rgb2 ≠ none) :
    (swapBuffers s).swap.front = s.swap.front + 1 ∧ (swapBuffers s).swap.back = s.swap.front + 1 + 1 := by
  simp [swapBuffers, emit, h, hthree]

/-! ### swapbufferCMD -/

/-- The swap fields as swapbufferCMD sets them before the swap (44_commands.md R370). -/
def State.swapRequested (s : State) (d : Word) : State :=
  { s with swap := { s.swap with interval := d.extractLsb' 1 8, dontSwap := decide (s.cfg.gen = .v2) && d.getLsbD 9 } }

/-- swapbufferCMD swaps at once on V2 or without data[0], and else holds (44_commands.md R370). -/
theorem swapWrite_eq (chips : ChipSet) (d : Word) (s : State) :
    swapWrite chips d s =
      if s.cfg.gen = .v2 ∨ d.getLsbD 0 = false then .next (swapBuffers (s.swapRequested d))
      else .next { s.swapRequested d with swap := { (s.swapRequested d).swap with pending := true } } := by
  simp only [swapWrite, bit, Bool.or_eq_true, decide_eq_true_eq, Bool.not_eq_true']
  rfl

/-- The buffers after the swap of swapbufferCMD, of two surfaces or of three, written as cases of the front index. -/
theorem swapBuffers_cases {s : State} (hreach : s.surf.rgb2 = none → s.swap.front ≠ 2) :
    let front : Fin 3 := if s.swap.dontSwap then s.swap.front
      else if s.surf.rgb2 = none then (if s.swap.front = 0 then 1 else 0)
      else (if s.swap.front = 2 then 0 else s.swap.front + 1)
    (swapBuffers s).swap.front = front ∧ (swapBuffers s).swap.back =
      if s.swap.dontSwap then s.swap.back
      else if s.surf.rgb2 = none then s.swap.front
      else (if front = 2 then 0 else front + 1) := by
  have hnext : ∀ f : Fin 3, (if f = 2 then 0 else f + 1) = f + 1 := by decide
  intro front
  cases hkeep : s.swap.dontSwap with
  | true => simpa [front, hkeep] using swapBuffers_kept hkeep
  | false =>
    by_cases htwo : s.surf.rgb2 = none
    · simpa [front, hkeep, htwo] using swapBuffers_exchange hkeep htwo (hreach htwo)
    · simpa [front, hkeep, htwo, hnext] using swapBuffers_rotate hkeep htwo

/-- A swap as a change of the state whose buffers are known (44_commands.md R371). -/
theorem swapBuffers_eq {s : State} {front back : Fin 3}
    (h : (swapBuffers s).swap.front = front ∧ (swapBuffers s).swap.back = back) :
    swapBuffers s = { s with
      hostEvents := s.hostEvents ++ [.displaySwap front]
      swap := { front := front
                back := back
                vblankCount := 0
                history := (s.swap.history <<< 4) ||| BitVec.ofNat 32 (min s.swap.vblankCount 15)
                pending := false
                interval := s.swap.interval
                dontSwap := s.swap.dontSwap } } := by
  obtain ⟨rfl, rfl⟩ := h
  rfl

/-- Settles O33: the store, then the swap that data[9] keeps from moving the buffers, or the hold. -/
theorem swapCommand : Obligations.SwapCommand := by
  intro cs d s hwf hchips hreach keep front back
  obtain ⟨-, -, hopen⟩ := openWrite_command s.cfg.gen
  obtain ⟨regs, hstored, hexec⟩ := storedReg_write_of_open (handler := swapWrite) (d := d) hopen hwf hchips
  refine ⟨regs, hstored, hexec.trans ?_⟩
  rw [swapWrite_eq]
  split
  case isTrue =>
    exact congrArg Host.Outcome.next
      (swapBuffers_eq (swapBuffers_cases (s := State.swapRequested { s with regs := regs } d) hreach))
  case isFalse h =>
    obtain ⟨hgen, -⟩ := not_or.1 h
    simp [State.swapRequested, hgen]

/-! ### The VBlank event -/

/-- The state whose blank is counted (44_commands.md R372). -/
def State.blankCounted (s : State) : State :=
  { s with swap := { s.swap with vblankCount := min (s.swap.vblankCount + 1) 250 } }

/-- VBlank counts, and then completes a swap that is due (44_commands.md R372). -/
theorem vblank_eq (s : State) :
    vblank s =
      if s.swap.pending = true ∧ s.swap.interval.toNat ≤ min (s.swap.vblankCount + 1) 250 then swapBuffers s.blankCounted
      else s.blankCounted := rfl

/-- Settles O34: the count, and the swap that becomes due, by the three ways a swap moves the buffers. -/
theorem vblankEvent : Obligations.VblankEvent := by
  intro s
  refine ⟨vblank s, rfl, ?_⟩
  intro count
  rw [vblank_eq]
  split
  case isFalse => rfl
  case isTrue =>
    have hval : ∀ f : Fin 3, (f + 1).val = (f.val + 1) % 3 ∧ (f + 1 + 1).val = (f.val + 2) % 3 := by decide
    refine ⟨rfl, rfl, rfl, rfl, rfl, rfl, fun hkeep => ?kept, fun hmove htwo hfront => ?two, fun hmove hthree => ?three⟩
    case kept => exact swapBuffers_kept (s := s.blankCounted) hkeep
    case two => exact swapBuffers_exchange (s := s.blankCounted) hmove htwo hfront
    case three =>
      obtain ⟨hfront, hback⟩ := swapBuffers_rotate (s := s.blankCounted) hmove hthree
      rw [hfront, hback]
      exact hval s.swap.front

/-! ### The swap hold -/

/-- Inputs without a VBlank event leave the hold none to take (44_commands.md R372). -/
theorem dropVblank_eq_none {l : List HostInput} (h : ∀ i ∈ l, i ≠ .vblank) : dropVblank l = none := by
  induction l with
  | nil => rfl
  | cons i l ih =>
    obtain ⟨hi, hl⟩ := List.forall_mem_cons.1 h
    cases i with
    | bus q display => rw [dropVblank, ih hl]; rfl
    | vblank => exact absurd rfl hi

/-- The hold takes the first VBlank event and keeps the inputs around it in order (log entry 12). -/
theorem dropVblank_append {before : List HostInput} (after : List HostInput) (h : ∀ i ∈ before, i ≠ .vblank) :
    dropVblank (before ++ .vblank :: after) = some (before ++ after) := by
  induction before with
  | nil => rfl
  | cons i before ih =>
    obtain ⟨hi, hbefore⟩ := List.forall_mem_cons.1 h
    cases i with
    | bus q display => rw [List.cons_append, dropVblank, ih hbefore]; rfl
    | vblank => exact absurd rfl hi

/-- Settles O35: during the hold the step looks for a VBlank event alone. -/
theorem holdTakesOnlyVblank : Obligations.HoldTakesOnlyVblank := by
  intro s hfatal hpending
  have hstep : step s = holdStep s := by simp [step, hfatal, hpending]
  refine ⟨fun hnone => ?_, fun before after hbefore hinbox => ?_⟩
  · rw [hstep, holdStep, dropVblank_eq_none hnone]
  · rw [hstep, holdStep, hinbox, dropVblank_append after hbefore]
    rfl

end Sys2Proof.Machine
end

section
/-! Sequences of 16-bit writes to the frame buffer (20_memory.md R104): what a byte and what a word reads after them. A fill
and a raw LFB write are such sequences. -/

namespace Sys2Proof.Machine

/-! ### Words of the frame buffer -/

/-- A 16-bit word whose two bytes lie in the frame buffer unmasked (20_memory.md R104). -/
def State.HasWord (s : State) (a : Int) : Prop := 0 ≤ a ∧ 2 * a + 1 < ((2 ^ s.cfg.fbBits : Nat) : Int)

theorem fbByteAddr_of_lt {p : Params} {i : Int} (h0 : 0 ≤ i) (h1 : i < ((2 ^ p.fbBits : Nat) : Int)) :
    fbByteAddr p i = i.toNat := by
  rw [fbByteAddr, Int.emod_eq_of_lt h0 h1]

/-- The bytes of such a word are its two neighbours. -/
theorem State.HasWord.bytes {s : State} {a : Int} (h : s.HasWord a) :
    fbByteAddr s.cfg (2 * a) = 2 * a.toNat ∧ fbByteAddr s.cfg (2 * a + 1) = 2 * a.toNat + 1 := by
  obtain ⟨h0, h1⟩ := h
  rw [fbByteAddr_of_lt (by omega) (by omega), fbByteAddr_of_lt (by omega) h1]
  omega

/-- A half-word is its high byte before its low byte. -/
theorem half_of_bytes (v : Half) : field v 8 8 ++ field v 0 8 = v := by
  unfold field
  rw [BitVec.extractLsb'_append_extractLsb'_eq_extractLsb' (by decide), BitVec.extractLsb'_eq_self]

/-- Read after write, of one word of the frame buffer. -/
theorem fbRead16_fbWrite16 {s : State} {a b : Int} (hwf : s.fbram.wf = true) (ha : s.HasWord a)
    (hb : s.HasWord b) (v : Half) :
    fbRead16 (fbWrite16 a v s) b = if b = a then v else fbRead16 s b := by
  obtain ⟨halow, hahigh⟩ := ha.bytes
  obtain ⟨hblow, hbhigh⟩ := hb.bytes
  obtain ⟨ha0, -⟩ := ha
  obtain ⟨hb0, -⟩ := hb
  rw [fbRead16, fbWrite16_cfg, fbWrite16_byte hwf, fbWrite16_byte hwf]
  by_cases h : b = a
  · subst h
    rw [if_pos rfl, if_pos rfl, if_pos rfl, if_neg (by omega)]
    exact half_of_bytes v
  · rw [if_neg h, if_neg (by omega), if_neg (by omega), if_neg (by omega), if_neg (by omega), fbRead16]

/-! ### Sequences of writes -/

/-- The 16-bit writes of a list of word addresses and values, in order. -/
def fbWrites (ws : List (Int × Half)) (s : State) : State := foldState (fun w => fbWrite16 w.1 w.2) ws s

theorem fbWrites_append (vs ws : List (Int × Half)) (s : State) :
    fbWrites (vs ++ ws) s = fbWrites ws (fbWrites vs s) := by
  induction vs generalizing s with
  | nil => rfl
  | cons v vs ih => exact ih _

/-- Writes change the frame-buffer memory alone. -/
theorem fbWrites_frame (ws : List (Int × Half)) (s : State) : fbWrites ws s = { s with fbram := (fbWrites ws s).fbram } :=
  foldState_fbram _ (fun _ _ => rfl) ws s

/-- Writes and the count of pixels out do not touch the same state. -/
theorem fbWrites_addPixelsOut (ws : List (Int × Half)) (n : Nat) (s : State) :
    fbWrites ws (addPixelsOut n s) = addPixelsOut n (fbWrites ws s) := by
  induction ws generalizing s with
  | nil => rfl
  | cons w ws ih => exact ih (fbWrite16 w.1 w.2 s)

/-- A byte of no written word is as before. -/
theorem fbWrites_other {ws : List (Int × Half)} {s : State} {b : Nat}
    (h : ∀ w ∈ ws, b ≠ fbByteAddr s.cfg (2 * w.1) ∧ b ≠ fbByteAddr s.cfg (2 * w.1 + 1)) :
    (fbWrites ws s).fbByte b = s.fbByte b := by
  induction ws generalizing s with
  | nil => rfl
  | cons w ws ih =>
    obtain ⟨⟨hlow, hhigh⟩, hws⟩ := List.forall_mem_cons.1 h
    exact (ih (s := fbWrite16 w.1 w.2 s) hws).trans (fbWrite16_other hlow hhigh)

/-- A word reads the value that every write of it has, when one of the writes is of it or it held the value before. -/
theorem fbRead16_fbWrites_or {ws : List (Int × Half)} {s : State} {b : Int} {v : Half} (hwf : s.fbram.wf = true)
    (hword : ∀ w ∈ ws, s.HasWord w.1) (hb : s.HasWord b) (hval : ∀ w ∈ ws, w.1 = b → w.2 = v)
    (h : (∃ w ∈ ws, w.1 = b) ∨ fbRead16 s b = v) : fbRead16 (fbWrites ws s) b = v := by
  induction ws generalizing s with
  | nil =>
    rcases h with ⟨w, hw, -⟩ | h
    · cases hw
    · exact h
  | cons w ws ih =>
    obtain ⟨hw, hws⟩ := List.forall_mem_cons.1 hword
    obtain ⟨hv, hvs⟩ := List.forall_mem_cons.1 hval
    refine ih (s := fbWrite16 w.1 w.2 s) (fbWrite16_wf hwf) hws hb hvs ?_
    rw [fbRead16_fbWrite16 hwf hw hb]
    by_cases hwb : b = w.1
    · exact .inr ((if_pos hwb).trans (hv hwb.symm))
    · rw [if_neg hwb]
      simpa [Ne.symm hwb] using h

/-- After writes a written word reads the value, when all writes of it agree on it. -/
theorem fbRead16_fbWrites {ws : List (Int × Half)} {s : State} {b : Int} {v : Half} (hwf : s.fbram.wf = true)
    (hword : ∀ w ∈ ws, s.HasWord w.1) (hmem : (b, v) ∈ ws) (hval : ∀ w ∈ ws, w.1 = b → w.2 = v) :
    fbRead16 (fbWrites ws s) b = v :=
  fbRead16_fbWrites_or hwf hword (hword _ hmem) hval (.inl ⟨_, hmem, rfl⟩)

/-! ### Folds that write -/

/-- `s` in the middle of a sequence of writes and counts: its frame-buffer memory and statistics are `m` and `k`. -/
def State.withPixels (s : State) (m : Memory) (k : Stats) : State := { s with fbram := m, stats := k }

theorem addPixelsOut_zero (s : State) : addPixelsOut 0 s = s := by
  simp [addPixelsOut]

theorem addPixelsOut_addPixelsOut (j n : Nat) (s : State) :
    addPixelsOut j (addPixelsOut n s) = addPixelsOut (n + j) s := by
  simp only [addPixelsOut, BitVec.ofNat_add, BitVec.add_assoc]

/-- A step of such a sequence leads to another state in the middle of it. -/
theorem addPixelsOut_fbWrites_withPixels (n : Nat) (ws : List (Int × Half)) (s : State) (m : Memory) (k : Stats) :
    ∃ m' k', addPixelsOut n (fbWrites ws (s.withPixels m k)) = s.withPixels m' k' := by
  rw [fbWrites_frame]
  exact ⟨_, _, rfl⟩

/-- Steps that each write words known from the start and count `n` pixels out: the fold writes and counts them all. -/
theorem foldOut_fbWrites_withPixels {α : Type} {f : α → State → Out} {s : State} {n : Nat} {ws : α → List (Int × Half)}
    (hf : ∀ a m k, f a (s.withPixels m k) = .next (addPixelsOut n (fbWrites (ws a) (s.withPixels m k))))
    (l : List α) (m : Memory) (k : Stats) :
    foldOut f l (s.withPixels m k) =
      .next (addPixelsOut (l.length * n) (fbWrites (l.flatMap ws) (s.withPixels m k))) := by
  induction l generalizing m k with
  | nil => rw [List.length_nil, Nat.zero_mul, addPixelsOut_zero]; rfl
  | cons a l ih =>
    obtain ⟨m', k', hstep⟩ := addPixelsOut_fbWrites_withPixels n (ws a) s m k
    rw [foldOut_cons, hf, andThen_next, hstep, ih, ← hstep, fbWrites_addPixelsOut, addPixelsOut_addPixelsOut,
      List.flatMap_cons, fbWrites_append, List.length_cons, Nat.succ_mul, Nat.add_comm n]

/-- The same from the start. -/
theorem foldOut_fbWrites {α : Type} {f : α → State → Out} {s : State} {n : Nat} {ws : α → List (Int × Half)}
    (hf : ∀ a m k, f a (s.withPixels m k) = .next (addPixelsOut n (fbWrites (ws a) (s.withPixels m k)))) (l : List α) :
    foldOut f l s = .next (addPixelsOut (l.length * n) (fbWrites (l.flatMap ws) s)) :=
  foldOut_fbWrites_withPixels hf l s.fbram s.stats

/-- A fold of updates is the fold of the steps that they are. -/
theorem foldOut_next {α : Type} (f : α → State → State) (l : List α) (s : State) :
    foldOut (fun a t => .next (f a t)) l s = .next (foldState f l s) := by
  induction l generalizing s with
  | nil => rfl
  | cons a l ih => exact ih _

end Sys2Proof.Machine
end

section
/-! The fast fill (44_commands.md R361, R362) as one sequence of 16-bit writes: the words of the clip rectangle's pixels on
each filled surface. -/

namespace Sys2Proof.Machine

/-! ### The words of a fill -/

/-- The writes of row `y` of the clip rectangle on the surface at `base`, if any: `v x` at column `x`. -/
def State.fillRowWords (s : State) (base : Option Nat) (v : Int → Half) (y : Int) : List (Int × Half) :=
  match base with
  | none => []
  | some b => (intRange s.clipLeft s.clipRight).map fun x => (pixelAddr s b (screenY s y) x, v x)

/-- The colours of row `y` (44_commands.md R362). -/
def State.fillColorWords (s : State) (y : Int) : List (Int × Half) :=
  s.fillRowWords s.fillColor (fun x => reduce565 s.fbzMode (colorOf s.color1) x y) y

/-- The aux values of row `y` (44_commands.md R362). -/
def State.fillAuxWords (s : State) (y : Int) : List (Int × Half) := s.fillRowWords s.fillAux (fun _ => s.zaDepth) y

/-- The pixels out that a row counts: its columns, when the colour surface is filled (44_commands.md R362). -/
def State.fillRowCount (s : State) : Nat := if s.fillColor = none then 0 else s.fillWidth

/-- A row of a fill is its writes: they change nothing that the address of a pixel depends on. -/
theorem fillRow_eq (base : Nat) (v : Int → Half) (y : Int) (s : State) :
    fillRow base (screenY s y) v s = fbWrites (s.fillRowWords (some base) v y) s := by
  unfold fillRow State.fillRowWords
  suffices h : ∀ (l : List Int) (scry : Int) (m : Memory),
      foldState (fun x t => fbWrite16 (pixelAddr t base scry x) (v x) t) l { s with fbram := m } =
        fbWrites (l.map fun x => (pixelAddr s base scry x, v x)) { s with fbram := m } from h _ _ s.fbram
  intro l scry
  induction l with
  | nil => exact fun _ => rfl
  | cons x l ih => exact fun _ => ih _

theorem fillColorRow_eq (y : Int) (s : State) :
    fillColorRow y s = addPixelsOut s.fillRowCount (fbWrites (s.fillColorWords y) s) := by
  unfold fillColorRow State.fillRowCount State.fillColorWords State.fillColor
  cases s.drawOffset with
  | none =>
    rw [ite_self]
    exact (addPixelsOut_zero s).symm
  | some base =>
    cases fbzRgbMask s.fbzMode with
    | false => exact (addPixelsOut_zero s).symm
    | true => exact congrArg (addPixelsOut s.fillWidth) (fillRow_eq base _ y s)

theorem fillAuxRow_eq (y : Int) (s : State) : fillAuxRow y s = fbWrites (s.fillAuxWords y) s := by
  unfold fillAuxRow State.fillAuxWords State.fillAux
  cases s.surf.aux with
  | none => rw [ite_self]; rfl
  | some aux =>
    cases fbzAuxMask s.fbzMode with
    | false => rfl
    | true => exact fillRow_eq aux _ y s

/-! The words and the count of a fill are the same in the middle of it: they depend on no pixel and no count. -/

@[simp] theorem fillColorWords_withPixels (s : State) (m : Memory) (k : Stats) (y : Int) :
    (s.withPixels m k).fillColorWords y = s.fillColorWords y := rfl
@[simp] theorem fillAuxWords_withPixels (s : State) (m : Memory) (k : Stats) (y : Int) :
    (s.withPixels m k).fillAuxWords y = s.fillAuxWords y := rfl
@[simp] theorem fillRowCount_withPixels (s : State) (m : Memory) (k : Stats) :
    (s.withPixels m k).fillRowCount = s.fillRowCount := rfl

/-- A row of a fill, in the middle of it: the colours, then the aux values (44_commands.md R362). -/
theorem fillRow_withPixels (y : Int) (s : State) (m : Memory) (k : Stats) :
    fillAuxRow y (fillColorRow y (s.withPixels m k)) =
      addPixelsOut s.fillRowCount (fbWrites (s.fillColorWords y ++ s.fillAuxWords y) (s.withPixels m k)) := by
  obtain ⟨m', k', hcolor⟩ := addPixelsOut_fbWrites_withPixels s.fillRowCount (s.fillColorWords y) s m k
  rw [fillColorRow_eq, fillColorWords_withPixels, fillRowCount_withPixels, hcolor, fillAuxRow_eq,
    fillAuxWords_withPixels, ← hcolor, fbWrites_addPixelsOut, fbWrites_append]

/-- The writes of a whole fill, top to bottom. -/
def State.fillWords (s : State) : List (Int × Half) :=
  (intRange s.clipLowY s.clipHighY).flatMap fun y => s.fillColorWords y ++ s.fillAuxWords y

/-- A fill is its writes and the count of its pixels (44_commands.md R362). -/
theorem fastfill_eq (s : State) :
    fastfill s = addPixelsOut (s.fillHeight * s.fillRowCount) (fbWrites s.fillWords s) := by
  have hrows := foldOut_fbWrites (s := s) (f := fun y t => .next (fillAuxRow y (fillColorRow y t)))
    (fun y m k => congrArg Host.Outcome.next (fillRow_withPixels y s m k)) (intRange s.clipLowY s.clipHighY)
  have hlength : (intRange s.clipLowY s.clipHighY).length = s.fillHeight := by simp [intRange, State.fillHeight]
  rw [foldOut_next, hlength] at hrows
  exact Host.Outcome.next.inj hrows

theorem mem_fillRowWords {s : State} {base : Option Nat} {v : Int → Half} {y : Int} {w : Int × Half} :
    w ∈ s.fillRowWords base v y ↔
      ∃ x b, (s.clipLeft ≤ x ∧ x < s.clipRight) ∧ base = some b ∧ w = (pixelAddr s b (screenY s y) x, v x) := by
  cases base with
  | none => simp [State.fillRowWords]
  | some b => simp [State.fillRowWords, mem_intRange, eq_comm]

/-- A write of a fill is the colour or the aux value of a pixel of the rectangle. -/
theorem mem_fillWords {s : State} {w : Int × Half} :
    w ∈ s.fillWords ↔ ∃ x y, s.inFill x y ∧
      ((∃ base, s.fillColor = some base ∧
          w = (pixelAddr s base (screenY s y) x, reduce565 s.fbzMode (colorOf s.color1) x y)) ∨
        ∃ aux, s.fillAux = some aux ∧ w = (pixelAddr s aux (screenY s y) x, s.zaDepth)) := by
  simp only [State.fillWords, State.fillColorWords, State.fillAuxWords, List.mem_flatMap, List.mem_append,
    mem_fillRowWords, mem_intRange]
  constructor
  · rintro ⟨y, hy, ⟨x, b, ⟨hl, hr⟩, hb, hw⟩ | ⟨x, b, ⟨hl, hr⟩, hb, hw⟩⟩
    · exact ⟨x, y, ⟨hl, hr, hy⟩, .inl ⟨b, hb, hw⟩⟩
    · exact ⟨x, y, ⟨hl, hr, hy⟩, .inr ⟨b, hb, hw⟩⟩
  · rintro ⟨x, y, ⟨hl, hr, hy⟩, ⟨b, hb, hw⟩ | ⟨b, hb, hw⟩⟩
    · exact ⟨y, hy, .inl ⟨x, b, ⟨hl, hr⟩, hb, hw⟩⟩
    · exact ⟨y, hy, .inr ⟨x, b, ⟨hl, hr⟩, hb, hw⟩⟩

/-! ### The command -/

/-- The store of fastfillCMD changes nothing that its fill reads (40_register_access.md R174). -/
theorem fill_of_sameRegs {s : State} {regs : Table Word}
    (h : ∀ n, n ≠ 0x49 → State.fbiReg { s with regs := regs } n = s.fbiReg n) :
    let stored : State := { s with regs := regs }
    stored.fillWords = s.fillWords ∧ stored.fillHeight = s.fillHeight ∧ stored.fillRowCount = s.fillRowCount := by
  intro stored
  have hfbz : stored.fbzMode = s.fbzMode := h 0x44 (by decide)
  have hclipX : stored.clipLeftRight = s.clipLeftRight := h 0x46 (by decide)
  have hclipY : stored.clipLowYHighY = s.clipLowYHighY := h 0x47 (by decide)
  have hcolor : stored.color1 = s.color1 := h 0x52 (by decide)
  have hza : stored.zaColor = s.zaColor := h 0x4C (by decide)
  have hdraw : stored.drawOffset = s.drawOffset := by rw [State.drawOffset, hfbz]; rfl
  have hscreen : ∀ y, screenY stored y = screenY s y := fun y => by rw [screenY, hfbz]; rfl
  have hleft : stored.clipLeft = s.clipLeft := by simp only [State.clipLeft, hclipX]
  have hright : stored.clipRight = s.clipRight := by simp only [State.clipRight, hclipX]
  have hlow : stored.clipLowY = s.clipLowY := by simp only [State.clipLowY, hclipY]
  have hhigh : stored.clipHighY = s.clipHighY := by simp only [State.clipHighY, hclipY]
  have hfillColor : stored.fillColor = s.fillColor := by simp only [State.fillColor, hfbz, hdraw]
  have hfillAux : stored.fillAux = s.fillAux := by simp only [State.fillAux, hfbz]; rfl
  have hrow : ∀ base v y, stored.fillRowWords base v y = s.fillRowWords base v y := fun base v y => by
    unfold State.fillRowWords
    rw [hleft, hright, hscreen]
    rfl
  refine ⟨?words, ?height, ?count⟩
  case words =>
    simp only [State.fillWords, State.fillColorWords, State.fillAuxWords, State.zaDepth, hrow, hlow, hhigh, hfillColor,
      hfillAux, hfbz, hcolor, hza]
  case height => simp only [State.fillHeight, hlow, hhigh]
  case count => simp only [State.fillRowCount, State.fillWidth, hfillColor, hleft, hright]

/-- fastfillCMD stores its word and fills (44_commands.md R361, R362). -/
theorem exec_fastfillCMD {cs : ChipSet} (d : Word) {s : State} (hchips : effectiveChips cs s.cfg.chipmask ≠ 0#4) :
    exec (.fastfillCMD (.write cs d)) s = .next (addPixelsOut (s.fillHeight * s.fillRowCount) (fbWrites s.fillWords
      { s with regs := (storeChips (effectiveChips cs s.cfg.chipmask) 0x49 d s).regs })) := by
  obtain ⟨-, ⟨hdescribed, hw, hinit⟩, -⟩ := openWrite_command s.cfg.gen
  have hstore := storedReg_write (handler := fun _ _ s => .next (fastfill s)) (d := d) hdescribed hw hchips (.inl hinit)
  obtain ⟨hwords, hheight, hcount⟩ := fill_of_sameRegs (s := s)
    (regs := (storeChips (effectiveChips cs s.cfg.chipmask) 0x49 d s).regs) fun _ hn => storeChips_fbiReg hn
  rw [storeChips_frame, fastfill_eq, hwords, hheight, hcount] at hstore
  exact hstore

/-- A fill counts all its pixels or none (44_commands.md R362). -/
theorem fillCount_eq (s : State) :
    s.fillHeight * s.fillRowCount =
      if fbzRgbMask s.fbzMode = true ∧ s.drawOffset ≠ none then s.fillWidth * s.fillHeight else 0 := by
  unfold State.fillRowCount State.fillColor
  cases fbzRgbMask s.fbzMode with
  | false => simp
  | true =>
    cases s.drawOffset with
    | none => simp
    | some base => simp [Nat.mul_comm]

/-- The bytes of a written pixel are bytes that the fill stores to. -/
theorem fillStores_of_mem {s : State} {w : Int × Half} {a : Nat} (hw : w ∈ s.fillWords)
    (ha : a = fbByteAddr s.cfg (2 * w.1) ∨ a = fbByteAddr s.cfg (2 * w.1 + 1)) : s.fillStores a := by
  obtain ⟨x, y, hin, ⟨b, hb, rfl⟩ | ⟨b, hb, rfl⟩⟩ := mem_fillWords.1 hw
  · obtain ⟨hmask, hdraw⟩ : fbzRgbMask s.fbzMode = true ∧ s.drawOffset = some b := by simpa [State.fillColor] using hb
    exact ⟨x, y, hin, .inl ⟨b, hdraw, hmask, ha⟩⟩
  · obtain ⟨hmask, haux⟩ : fbzAuxMask s.fbzMode = true ∧ s.surf.aux = some b := by simpa [State.fillAux] using hb
    exact ⟨x, y, hin, .inr ⟨b, haux, hmask, ha⟩⟩

/-- Settles O36: the store, the writes, which change memory alone, and the count. -/
theorem fastfillCountsAndFrame : Obligations.FastfillCountsAndFrame := by
  intro cs d s hwf hchips
  refine ⟨_, _, slotsStored_storeChips hwf, exec_fastfillCMD d hchips, ?frame, fun a ha => ?bytes⟩
  case frame =>
    rw [fbWrites_frame, addPixelsOut, fillCount_eq]
    split <;> rfl
  case bytes =>
    exact fbWrites_other (s := { s with regs := _ }) fun w hw =>
      ⟨fun e => ha (fillStores_of_mem hw (.inl e)), fun e => ha (fillStores_of_mem hw (.inr e))⟩

/-! ### The pixels after a fill -/

/-- The clip rectangle lies in the 1024 rows and columns that its registers can name (10_state.md R36). -/
theorem State.inFill.bounds {s : State} {x y : Int} (h : s.inFill x y) : 0 ≤ x ∧ 0 ≤ y ∧ y < 1024 := by
  obtain ⟨hl, -, hlow, hhigh⟩ := h
  have hright : s.clipHighY < 1024 := by
    have := (field s.clipLowYHighY 0 10).isLt
    unfold State.clipHighY fieldNat
    omega
  unfold State.clipLeft at hl
  unfold State.clipLowY at hlow
  omega

theorem screenY_nonneg (s : State) {y : Int} (h : 0 ≤ y) : 0 ≤ screenY s y := by
  unfold screenY flipRow
  split <;> omega

/-- Different rows of the rectangle are different screen rows, flipped or not. -/
theorem screenY_inj {s : State} {y y' : Int} (hy : 0 ≤ y ∧ y < 1024) (hy' : 0 ≤ y' ∧ y' < 1024)
    (h : screenY s y = screenY s y') : y = y' := by
  unfold screenY flipRow at h
  split at h <;> omega

/-- In rows of `row` pixels an offset names one row and one column. -/
theorem offset_inj {row scry scry' x x' : Int} (hx : 0 ≤ x ∧ x < row) (hx' : 0 ≤ x' ∧ x' < row)
    (h : scry * row + x = scry' * row + x') : scry = scry' ∧ x = x' := by
  have hrow : 0 < row := by omega
  obtain ⟨hq, hr⟩ := (Int.ediv_emod_unique (a := scry * row + x) (q := scry) hrow).2 ⟨by ring, hx⟩
  obtain ⟨hq', hr'⟩ := (Int.ediv_emod_unique (a := scry * row + x) (q := scry') hrow).2 ⟨by rw [h]; ring, hx'⟩
  exact ⟨hq.symm.trans hq', hr.symm.trans hr'⟩

/-- On a surface that the rectangle fits, its pixels are words of the frame buffer. -/
theorem State.fillFits.hasWord {s : State} {base : Nat} (h : s.fillFits base) {x y : Int} (hin : s.inFill x y) :
    s.HasWord (pixelAddr s base (screenY s y) x) := by
  obtain ⟨hx, hy, -⟩ := hin.bounds
  obtain ⟨-, hright, hlow, hhigh⟩ := hin
  have hfit := h.2 y hlow hhigh
  have hrow : 0 ≤ screenY s y * (s.surf.rowpixels : Int) := mul_nonneg (screenY_nonneg s hy) (Int.natCast_nonneg _)
  unfold State.HasWord pixelAddr pixelOffset
  omega

/-- On such a surface different pixels of the rectangle are different words. -/
theorem State.fillFits.pixel_inj {s : State} {base : Nat} (h : s.fillFits base) {x y x' y' : Int} (hin : s.inFill x y)
    (hin' : s.inFill x' y') (haddr : pixelAddr s base (screenY s y) x = pixelAddr s base (screenY s y') x') :
    x = x' ∧ y = y' := by
  obtain ⟨hx, hy⟩ := hin.bounds
  obtain ⟨hx', hy'⟩ := hin'.bounds
  obtain ⟨hwide, -⟩ := h
  obtain ⟨-, hright, -⟩ := hin
  obtain ⟨-, hright', -⟩ := hin'
  obtain ⟨hscreen, hcolumn⟩ := offset_inj ⟨hx, by omega⟩ ⟨hx', by omega⟩ (Int.add_left_cancel haddr)
  exact ⟨hcolumn, screenY_inj hy hy' hscreen⟩

/-- Settles O37: a pixel's word is written, and every write of that word is of that pixel on that surface. -/
theorem fastfillPixels : Obligations.FastfillPixels := by
  intro cs d s hwf hchips hcolorFits hauxFits hapart
  have hword : ∀ w ∈ s.fillWords, s.HasWord w.1 := by
    intro w hw
    obtain ⟨x, y, hin, ⟨b, hb, rfl⟩ | ⟨b, hb, rfl⟩⟩ := mem_fillWords.1 hw
    · exact (hcolorFits b hb).hasWord hin
    · exact (hauxFits b hb).hasWord hin
  have hread : ∀ {a v}, (a, v) ∈ s.fillWords → (∀ w ∈ s.fillWords, w.1 = a → w.2 = v) → ∀ regs n,
      fbRead16 (addPixelsOut n (fbWrites s.fillWords { s with regs := regs })) a = v :=
    fun hmem hval regs _ => fbRead16_fbWrites (s := { s with regs := regs }) hwf hword hmem hval
  refine ⟨_, exec_fastfillCMD d hchips, fun x y hin => ⟨fun base hbase => ?color, fun aux haux => ?aux⟩⟩
  case color =>
    refine hread (mem_fillWords.2 ⟨x, y, hin, .inl ⟨base, hbase, rfl⟩⟩) (fun w hw haddr => ?_) _ _
    obtain ⟨x', y', hin', ⟨b, hb, rfl⟩ | ⟨b, hb, rfl⟩⟩ := mem_fillWords.1 hw
    · obtain rfl := Option.some.inj (hb.symm.trans hbase)
      obtain ⟨rfl, rfl⟩ := (hcolorFits b hb).pixel_inj hin' hin haddr
      rfl
    · exact absurd haddr.symm (hapart base b hbase hb x y x' y' hin hin')
  case aux =>
    refine hread (mem_fillWords.2 ⟨x, y, hin, .inr ⟨aux, haux, rfl⟩⟩) (fun w hw haddr => ?_) _ _
    obtain ⟨x', y', hin', ⟨b, hb, rfl⟩ | ⟨b, hb, rfl⟩⟩ := mem_fillWords.1 hw
    · exact absurd haddr (hapart b aux hb haux x' y' x y hin' hin)
    · rfl

end Sys2Proof.Machine
end

section
/-! Writes to the linear frame buffer (44_commands.md R380 to R385): the checks of the word, the frame of its pixels on
either path, and the raw path as a sequence of 16-bit writes. -/

namespace Sys2Proof.Machine

/-! ### The checks of a word -/

/-- A format carries something exactly when it is not reserved (44_commands.md R381). -/
theorem lfbCarries_eq_none_iff {format : Nat} :
    lfbCarries format = none ↔ format ∉ [0, 1, 2, 4, 5, 12, 13, 14, 15] := by
  unfold lfbCarries
  split_ifs <;> simp <;> omega

theorem exists_lfbCarries_iff {format : Nat} :
    (∃ c, lfbCarries format = some c) ↔ format ∈ [0, 1, 2, 4, 5, 12, 13, 14, 15] := by
  rw [← Option.ne_none_iff_exists', Ne, lfbCarries_eq_none_iff, not_not]

/-- What a format carries, by its number (44_commands.md R381). -/
theorem lfbCarries_iff {format : Nat} {c : LfbCarries} (h : lfbCarries format = some c) :
    (c.rgb = true ↔ format ≠ 15) ∧ (c.alpha = true ↔ format ∈ [2, 5, 14]) ∧
      (c.depth = true ↔ format ∈ [12, 13, 14, 15]) := by
  unfold lfbCarries at h
  split_ifs at h <;> obtain rfl := Option.some.inj h <;> simp <;> omega

theorem execLfbWr_of_reserved_format {s : State} (h : lfbCarries (lfbWriteFormat s.lfbMode) = none) (l : BitVec 20)
    (d : Word) :
    exec (.lfbWr l d) s = .next { s with log := s.log ++ [.lfbReservedFormat (s.lfbMode.extractLsb' 0 4)] } := by
  have hformat : BitVec.ofNat 4 (lfbWriteFormat s.lfbMode) = s.lfbMode.extractLsb' 0 4 := by
    rw [lfbWriteFormat, fieldNat, BitVec.ofNat_toNat, BitVec.setWidth_eq, field]
  show execLfbWr l d s = _
  simp only [execLfbWr, h, hformat]
  rfl

theorem execLfbWr_of_reserved_buffer {s : State} {c : LfbCarries} (h : lfbCarries (lfbWriteFormat s.lfbMode) = some c)
    (hbuffer : 2 ≤ lfbWriteBuffer s.lfbMode) (l : BitVec 20) (d : Word) :
    exec (.lfbWr l d) s = .next { s with log := s.log ++ [.lfbReservedBuffer] } := by
  show execLfbWr l d s = _
  simp only [execLfbWr, h, if_pos hbuffer]
  rfl

theorem execLfbWr_of_no_surface {s : State} {c : LfbCarries} (h : lfbCarries (lfbWriteFormat s.lfbMode) = some c)
    (hbuffer : ¬ 2 ≤ lfbWriteBuffer s.lfbMode) (hsurface : s.lfbSurface (lfbWriteBuffer s.lfbMode) = none)
    (l : BitVec 20) (d : Word) : exec (.lfbWr l d) s = .next s := by
  show execLfbWr l d s = _
  simp only [execLfbWr, h, if_neg hbuffer, hsurface]

/-- Past the checks a word is its pixels (44_commands.md R380). -/
theorem execLfbWr_of_surface {s : State} {c : LfbCarries} {base : Nat}
    (h : lfbCarries (lfbWriteFormat s.lfbMode) = some c) (hbuffer : ¬ 2 ≤ lfbWriteBuffer s.lfbMode)
    (hsurface : s.lfbSurface (lfbWriteBuffer s.lfbMode) = some base) (l : BitVec 20) (d : Word) :
    exec (.lfbWr l d) s =
      foldOut (lfbWritePixel base c l (lfbWriteData s.lfbMode d)) (lfbPixels (lfbWriteFormat s.lfbMode)) s := by
  show execLfbWr l d s = _
  simp only [execLfbWr, h, if_neg hbuffer, hsurface]

/-! ### The frame of a word -/

/-- Rendering changes no control of the linear frame buffer. -/
theorem RenderOnly.lfbMode {s t : State} (h : RenderOnly s t) : t.lfbMode = s.lfbMode := h.fbiReg (by decide)

theorem RenderOnly.lfbRow {s t : State} (h : RenderOnly s t) (y : Int) : t.lfbRow y = s.lfbRow y := by
  simp only [State.lfbRow, lfbScreenY, flipRow, h.lfbMode, h.screenY, h.surf]

theorem RenderOnly.lfbStores {s t : State} (h : RenderOnly s t) (base : Nat) (l : BitVec 20) (a : Nat) :
    t.lfbStores base l a ↔ s.lfbStores base l a := by
  simp only [State.lfbStores, h.lfbMode, h.lfbRow, h.surf, h.pixelByte]

/-- `t` is `s` with pixels of LFB word `l` drawn: nothing changed beyond the frame of rendering, no register on the raw
path, and no byte outside the pixels of the word (44_commands.md R384, R385). -/
structure LfbDrawn (base : Nat) (l : BitVec 20) (s t : State) : Prop where
  only : RenderOnly s t
  raw : lfbPipeline s.lfbMode = false → ∀ j, t.slot j = s.slot j
  bytes : ∀ a, ¬ s.lfbStores base l a → t.fbByte a = s.fbByte a

theorem LfbDrawn.refl (base : Nat) (l : BitVec 20) (s : State) : LfbDrawn base l s s :=
  ⟨.refl s, fun _ _ => rfl, fun _ _ => rfl⟩

theorem LfbDrawn.trans {base : Nat} {l : BitVec 20} {s t u : State} (h : LfbDrawn base l s t) (k : LfbDrawn base l t u) :
    LfbDrawn base l s u where
  only := h.only.trans k.only
  raw hraw j := (k.raw (by rwa [h.only.lfbMode]) j).trans (h.raw hraw j)
  bytes a ha := (k.bytes a (by rwa [h.only.lfbStores])).trans (h.bytes a ha)

/-- The pixels of a word complete, whichever of them are taken, and draw it. -/
theorem foldOut_lfbDrawn {base : Nat} {c : LfbCarries} {l : BitVec 20} {data : Word} {ks : List Nat} {s : State}
    (hks : ∀ k ∈ ks, k ∈ lfbPixels (lfbWriteFormat s.lfbMode)) :
    ∃ t, foldOut (lfbWritePixel base c l data) ks s = .next t ∧ LfbDrawn base l s t := by
  induction ks generalizing s with
  | nil => exact ⟨s, rfl, .refl base l s⟩
  | cons k ks ih =>
    obtain ⟨hk, hks⟩ := List.forall_mem_cons.1 hks
    obtain ⟨u, hpixel, honly, hraw, hbytes⟩ := lfbWritePixel_next (base := base) (c := c) (data := data) (l := l) hk
    obtain ⟨t, hrest, hdrawn⟩ := ih (s := u) (by rwa [honly.lfbMode])
    exact ⟨t, by rw [foldOut_cons, hpixel, andThen_next, hrest], .trans ⟨honly, hraw, hbytes⟩ hdrawn⟩

/-- Settles O50: the checks in their order, then the pixels of the word. -/
theorem lfbWriteCompletes : Obligations.LfbWriteCompletes := by
  intro l d s mode surface
  cases hcarries : lfbCarries (lfbWriteFormat mode) with
  | none =>
    rw [if_pos (lfbCarries_eq_none_iff.1 hcarries)]
    exact execLfbWr_of_reserved_format hcarries l d
  | some c =>
    rw [if_neg (not_not.2 (exists_lfbCarries_iff.1 ⟨c, hcarries⟩))]
    split
    case isTrue hbuffer => exact execLfbWr_of_reserved_buffer hcarries hbuffer l d
    case isFalse hbuffer =>
      cases hsurface : surface with
      | none => exact execLfbWr_of_no_surface hcarries hbuffer hsurface l d
      | some base =>
        obtain ⟨t, hpixels, hdrawn⟩ := foldOut_lfbDrawn (base := base) (c := c) (l := l)
          (data := lfbWriteData s.lfbMode d) (s := s) fun k hk => hk
        have hexec := (execLfbWr_of_surface hcarries hbuffer hsurface l d).trans hpixels
        obtain ⟨hframe, hslot⟩ := hdrawn.only
        refine ⟨t, hexec, hframe, fun j hj => ?_, hdrawn.bytes⟩
        rcases hj with hj | hj | hj
        · exact hslot j (.inl hj)
        · exact hslot j (.inr hj)
        · exact hdrawn.raw hj j

end Sys2Proof.Machine
end

section
/-! The raw path of the linear frame buffer (44_commands.md R381 to R384) as a sequence of 16-bit writes: at most a colour and
an aux value of each decoded pixel. -/

namespace Sys2Proof.Machine

/-! ### The words of a raw pixel -/

/-- The colour write of a raw pixel, if it has one (44_commands.md R384). -/
def State.rawColorWords (s : State) (base : Nat) (c : LfbCarries) (p : LfbPixel) (x y scry : Int) : List (Int × Half) :=
  if c.rgb ∧ offsetInRange s base (pixelOffset s scry x) then
    [(pixelAddr s base scry x, reduce565 s.fbzMode p.color x y)]
  else []

/-- The aux value of a raw pixel: what the aux surface holds, alpha or depth (44_commands.md R384). -/
def State.rawAuxValue (s : State) (p : LfbPixel) : Half :=
  if fbzAlphaPlanes s.fbzMode then BitVec.ofInt 16 p.color.a else p.depth

/-- The aux write of a raw pixel, if it has one (44_commands.md R384). -/
def State.rawAuxWords (s : State) (c : LfbCarries) (p : LfbPixel) (x scry : Int) : List (Int × Half) :=
  match s.surf.aux with
  | none => []
  | some aux =>
    if (if fbzAlphaPlanes s.fbzMode then c.alpha else c.depth) ∧ offsetInRange s aux (pixelOffset s scry x) then
      [(pixelAddr s aux scry x, s.rawAuxValue p)]
    else []

theorem rawColor_eq (base : Nat) (c : LfbCarries) (p : LfbPixel) (x y scry : Int) (s : State) :
    rawColor base c p x y scry s = fbWrites (s.rawColorWords base c p x y scry) s := by
  unfold rawColor State.rawColorWords
  split <;> rfl

theorem rawAux_eq (c : LfbCarries) (p : LfbPixel) (x scry : Int) (s : State) :
    rawAux c p x scry s = fbWrites (s.rawAuxWords c p x scry) s := by
  unfold rawAux State.rawAuxWords State.rawAuxValue
  cases s.surf.aux with
  | none => rfl
  | some aux =>
    dsimp only
    cases offsetInRange s aux (pixelOffset s scry x) with
    | false =>
      rw [if_neg Bool.false_ne_true, if_neg fun h => Bool.false_ne_true h.2]
      rfl
    | true =>
      cases fbzAlphaPlanes s.fbzMode with
      | true => cases c.alpha <;> rfl
      | false => cases c.depth <;> rfl

/-- A raw pixel is its writes and its count: the colour write changes nothing that the aux write reads (44_commands.md
R384). -/
theorem rawPixel_eq (base : Nat) (c : LfbCarries) (p : LfbPixel) (x y : Int) (s : State) :
    rawPixel base c p x y s = addPixelsOut 1 (fbWrites
      (s.rawColorWords base c p x y (lfbScreenY s y) ++ s.rawAuxWords c p x (lfbScreenY s y)) s) := by
  rw [rawPixel, rawColor_eq, rawAux_eq, fbWrites_append, fbWrites_frame (s.rawColorWords ..)]
  rfl

/-! ### The words of a raw write -/

/-- Pixel `k` of LFB word `l` with data `d`, decoded by the controls of `s` (44_commands.md R380 to R382). -/
def State.lfbWire (s : State) (d : Word) (k : Nat) : LfbPixel :=
  lfbDecode (lfbWriteFormat s.lfbMode) (lfbLanes s.lfbMode) s.zaAlpha s.zaDepth (lfbWriteData s.lfbMode d) k

/-- The column of pixel `k`, the row, and the screen row of LFB word `l` on the raw path (44_commands.md R383). -/
def State.lfbCol (s : State) (l : BitVec 20) (k : Nat) : Int := lfbX (lfbTwoPixels (lfbWriteFormat s.lfbMode)) l k
def State.lfbLine (s : State) (l : BitVec 20) : Int := lfbY (lfbTwoPixels (lfbWriteFormat s.lfbMode)) l
def State.lfbScry (s : State) (l : BitVec 20) : Int := lfbScreenY s (s.lfbLine l)

/-- The writes of pixel `k` of a raw LFB write. -/
def State.rawWords (s : State) (base : Nat) (c : LfbCarries) (l : BitVec 20) (d : Word) (k : Nat) : List (Int × Half) :=
  s.rawColorWords base c (s.lfbWire d k) (s.lfbCol l k) (s.lfbLine l) (s.lfbScry l) ++
    s.rawAuxWords c (s.lfbWire d k) (s.lfbCol l k) (s.lfbScry l)

/-- A raw LFB write is the writes of its pixels and their count (44_commands.md R384). -/
theorem foldOut_rawWords {s : State} (hraw : lfbPipeline s.lfbMode = false) (base : Nat) (c : LfbCarries)
    (l : BitVec 20) (d : Word) (ks : List Nat) :
    foldOut (lfbWritePixel base c l (lfbWriteData s.lfbMode d)) ks s =
      .next (addPixelsOut ks.length (fbWrites (ks.flatMap (s.rawWords base c l d)) s)) := by
  have hpixel : ∀ k m st, lfbWritePixel base c l (lfbWriteData s.lfbMode d) k (s.withPixels m st) =
      .next (addPixelsOut 1 (fbWrites (s.rawWords base c l d k) (s.withPixels m st))) := by
    intro k m st
    have hraw' : lfbPipeline (s.withPixels m st).lfbMode = false := hraw
    rw [lfbWritePixel, hraw', rawPixel_eq]
    rfl
  rw [foldOut_fbWrites hpixel, Nat.mul_one]

/-- A write of raw pixel `k` is its colour or its aux value, on a surface that takes it (44_commands.md R381, R384). -/
theorem mem_rawWords {s : State} {c : LfbCarries} (hc : lfbCarries (lfbWriteFormat s.lfbMode) = some c) {base : Nat}
    {l : BitVec 20} {d : Word} {k : Nat} {w : Int × Half} :
    w ∈ s.rawWords base c l d k ↔
      (∃ b, s.rawColorAt base (s.lfbScry l) (s.lfbCol l k) b ∧ w = (pixelAddr s b (s.lfbScry l) (s.lfbCol l k),
        reduce565 s.fbzMode (s.lfbWire d k).color (s.lfbCol l k) (s.lfbLine l))) ∨
      ∃ b, s.rawAuxAt (s.lfbScry l) (s.lfbCol l k) b ∧ w = (pixelAddr s b (s.lfbScry l) (s.lfbCol l k),
        s.rawAuxValue (s.lfbWire d k)) := by
  obtain ⟨hrgb, halpha, hdepth⟩ := lfbCarries_iff hc
  have hrange : ∀ b scry x, offsetInRange s b (pixelOffset s scry x) = true ↔ s.rawInRange b scry x := by
    intro b scry x
    rw [offsetInRange, decide_eq_true_iff, pixelOffset, State.rawInRange]
    omega
  have hcarries : (if fbzAlphaPlanes s.fbzMode then c.alpha else c.depth) = true ↔
      lfbWriteFormat s.lfbMode ∈ if fbzAlphaPlanes s.fbzMode then [2, 5, 14] else [12, 13, 14, 15] := by
    cases fbzAlphaPlanes s.fbzMode with
    | false => exact hdepth
    | true => exact halpha
  rw [State.rawWords, List.mem_append]
  refine or_congr ?color ?aux
  case color =>
    rw [State.rawColorWords, List.mem_ite_nil_right, List.mem_singleton, hrgb, hrange]
    constructor
    · rintro ⟨⟨hcarried, hin⟩, hw⟩
      exact ⟨base, ⟨hcarried, rfl, hin⟩, hw⟩
    · rintro ⟨b, ⟨hcarried, rfl, hin⟩, hw⟩
      exact ⟨⟨hcarried, hin⟩, hw⟩
  case aux =>
    unfold State.rawAuxWords State.rawAuxAt
    cases s.surf.aux with
    | none => simp
    | some aux =>
      dsimp only
      rw [List.mem_ite_nil_right, List.mem_singleton, hcarries, hrange]
      constructor
      · rintro ⟨⟨hcarried, hin⟩, hw⟩
        exact ⟨aux, ⟨rfl, hin, hcarried⟩, hw⟩
      · rintro ⟨b, ⟨haux, hin, hcarried⟩, hw⟩
        obtain rfl := Option.some.inj haux
        exact ⟨⟨hcarried, hin⟩, hw⟩

/-! ### Words and pixels -/

theorem lfbScreenY_nonneg (s : State) {y : Int} (h : 0 ≤ y) : 0 ≤ lfbScreenY s y := by
  unfold lfbScreenY flipRow
  split <;> omega

/-- A raw pixel in range is a word of the frame buffer (44_commands.md R383). -/
theorem State.rawInRange.hasWord {s : State} {b : Nat} {l : BitVec 20} {k : Nat}
    (h : s.rawInRange b (s.lfbScry l) (s.lfbCol l k)) : s.HasWord (pixelAddr s b (s.lfbScry l) (s.lfbCol l k)) := by
  have hline : 0 ≤ s.lfbLine l := by unfold State.lfbLine lfbY; split <;> omega
  have hcol : 0 ≤ s.lfbCol l k := by unfold State.lfbCol lfbX; split <;> omega
  have hrow : 0 ≤ s.lfbScry l * (s.surf.rowpixels : Int) :=
    mul_nonneg (lfbScreenY_nonneg s hline) (Int.natCast_nonneg _)
  unfold State.rawInRange at h
  unfold State.HasWord pixelAddr pixelOffset
  omega

/-- The pixels of a word have different columns (44_commands.md R383). -/
theorem lfbCol_inj {s : State} {l : BitVec 20} {k k' : Nat} (hk : k ∈ lfbPixels (lfbWriteFormat s.lfbMode))
    (hk' : k' ∈ lfbPixels (lfbWriteFormat s.lfbMode)) (h : s.lfbCol l k = s.lfbCol l k') : k = k' := by
  unfold State.lfbCol lfbX at h
  unfold lfbPixels at hk hk'
  cases htwo : lfbTwoPixels (lfbWriteFormat s.lfbMode) with
  | true =>
    simp only [htwo, if_true] at h
    omega
  | false =>
    simp only [htwo, Bool.false_eq_true, if_false, List.mem_singleton] at hk hk'
    rw [hk, hk']

theorem lfbCol_inj_of_pixelAddr {s : State} {b : Nat} {l : BitVec 20} {k k' : Nat}
    (hk : k ∈ lfbPixels (lfbWriteFormat s.lfbMode)) (hk' : k' ∈ lfbPixels (lfbWriteFormat s.lfbMode))
    (h : pixelAddr s b (s.lfbScry l) (s.lfbCol l k) = pixelAddr s b (s.lfbScry l) (s.lfbCol l k')) : k = k' :=
  lfbCol_inj hk hk' (Int.add_left_cancel (Int.add_left_cancel h))

/-- Settles O51: a pixel's word is written, and every write of that word is of that pixel's value for that surface. -/
theorem lfbRawStores : Obligations.LfbRawStores := by
  intro l d s base hwf hraw hformat hbuffer hsurface hapart format two scry x wire
  obtain ⟨c, hc⟩ := exists_lfbCarries_iff.2 hformat
  have hexec := execLfbWr_of_surface hc (by omega) hsurface l d
  rw [foldOut_rawWords hraw] at hexec
  have hmem : ∀ w, w ∈ (lfbPixels format).flatMap (s.rawWords base c l d) ↔ ∃ k ∈ lfbPixels format,
      (∃ b, s.rawColorAt base scry (x k) b ∧
        w = (pixelAddr s b scry (x k), reduce565 s.fbzMode (wire k).color (x k) (lfbY two l))) ∨
      ∃ b, s.rawAuxAt scry (x k) b ∧ w = (pixelAddr s b scry (x k), s.rawAuxValue (wire k)) := fun w =>
    List.mem_flatMap.trans (exists_congr fun k => and_congr_right fun _ => mem_rawWords hc)
  have hword : ∀ w ∈ (lfbPixels format).flatMap (s.rawWords base c l d), s.HasWord w.1 := by
    intro w hw
    obtain ⟨k, -, ⟨b, ⟨-, -, hrange⟩, rfl⟩ | ⟨b, ⟨-, hrange, -⟩, rfl⟩⟩ := (hmem w).1 hw
    · exact hrange.hasWord
    · exact hrange.hasWord
  refine ⟨_, hexec, ?frame, fun k hk b hb => ?color, fun k hk b hb => ?aux, fun a ha => ?bytes⟩
  case frame =>
    rw [fbWrites_frame]
    rfl
  case color =>
    refine fbRead16_fbWrites hwf hword ((hmem _).2 ⟨k, hk, .inl ⟨b, hb, rfl⟩⟩) fun w hw haddr => ?_
    obtain ⟨k', hk', ⟨b', hb', rfl⟩ | ⟨b', hb', rfl⟩⟩ := (hmem w).1 hw
    · obtain ⟨-, rfl, -⟩ := hb
      obtain ⟨-, rfl, -⟩ := hb'
      obtain rfl := lfbCol_inj_of_pixelAddr hk' hk haddr
      rfl
    · exact absurd (.inl (congrArg (fun i => fbByteAddr s.cfg (2 * i)) haddr.symm))
        (hapart k hk k' hk' b b' _ hb hb' (.inl rfl))
  case aux =>
    refine fbRead16_fbWrites hwf hword ((hmem _).2 ⟨k, hk, .inr ⟨b, hb, rfl⟩⟩) fun w hw haddr => ?_
    obtain ⟨k', hk', ⟨b', hb', rfl⟩ | ⟨b', hb', rfl⟩⟩ := (hmem w).1 hw
    · exact absurd (.inl (congrArg (fun i => fbByteAddr s.cfg (2 * i)) haddr))
        (hapart k' hk' k hk b' b _ hb' hb (.inl rfl))
    · obtain ⟨haux, -, -⟩ := hb
      obtain ⟨haux', -, -⟩ := hb'
      obtain rfl := Option.some.inj (haux'.symm.trans haux)
      obtain rfl := lfbCol_inj_of_pixelAddr hk' hk haddr
      rfl
  case bytes =>
    refine fbWrites_other fun w hw => ?_
    obtain ⟨k, hk, ⟨b, hb, rfl⟩ | ⟨b, hb, rfl⟩⟩ := (hmem w).1 hw
    · exact not_or.1 (ha k hk b (.inl hb))
    · exact not_or.1 (ha k hk b (.inr hb))

end Sys2Proof.Machine
end

section
/-! Reads of the linear frame buffer (44_commands.md R390) and the round trip of its formats (R386). -/

namespace Sys2Proof.Machine

/-! ### Reads -/

/-- The column of an LFB read, twice the word number within a row of 512 words, as a masked field (44_commands.md R390). -/
theorem lfbRead_column (l : BitVec 20) : ((l <<< 1) &&& 0x3FE#20).toNat = 2 * l.toNat % 1024 := by
  have hfield : (l <<< 1) &&& 0x3FE#20 = (l &&& 0x1FF#20) <<< 1 := (BitVec.shiftLeft_and_distrib l 0x1FF#20 1).symm
  have hmask : (l &&& 0x1FF#20).toNat = l.toNat % 512 := by
    rw [BitVec.toNat_and]
    exact Nat.and_two_pow_sub_one_eq_mod l.toNat 9
  rw [hfield, BitVec.toNat_shiftLeft, hmask, Nat.shiftLeft_eq]
  omega

/-- The row of an LFB read as a masked field (44_commands.md R390). -/
theorem lfbRead_row (l : BitVec 20) : ((l >>> 9) &&& 0x3FF#20).toNat = l.toNat / 512 % 1024 := by
  rw [BitVec.toNat_and, BitVec.toNat_ushiftRight, Nat.shiftRight_eq_div_pow]
  exact Nat.and_two_pow_sub_one_eq_mod (l.toNat / 512) 10

theorem lfbReadSurface_eq (s : State) :
    s.lfbReadSurface =
      if lfbReadBuffer s.lfbMode = 0 then s.frontOffset else if lfbReadBuffer s.lfbMode = 1 then s.backOffset
      else if lfbReadBuffer s.lfbMode = 2 then s.surf.aux else none := by
  unfold State.lfbReadSurface
  match lfbReadBuffer s.lfbMode with
  | 0 | 1 | 2 | _ + 3 => rfl

/-- Without a surface a read answers all ones (44_commands.md R390). -/
theorem lfbReadValue_of_no_surface {s : State} (h : s.lfbReadSurface = none) (l : BitVec 20) :
    lfbReadValue l s = 0xFFFFFFFF := by
  rw [lfbReadValue, h]
  rfl

/-- A read of a surface, by the masked fields of its word number (44_commands.md R390). -/
theorem lfbReadValue_of_surface {s : State} {b : Nat} (h : s.lfbReadSurface = some b) (l : BitVec 20) :
    let x : Int := ((l <<< 1) &&& 0x3FE#20).toNat
    let scry : Int := lfbScreenY s ((l >>> 9) &&& 0x3FF#20).toNat
    lfbReadValue l s =
      if ((2 ^ s.cfg.fbBits - b) / 2 : Nat) ≤ pixelOffset s scry x then 0xFFFFFFFF
      else lfbReadData s.lfbMode (fbRead16 s (pixelAddr s b scry x + 1) ++ fbRead16 s (pixelAddr s b scry x)) := by
  have hrange : ∀ off, ¬ offsetInRange s b off = true ↔ ((2 ^ s.cfg.fbBits - b) / 2 : Nat) ≤ off := fun off => by
    rw [offsetInRange, decide_eq_true_iff, not_lt]
  rw [lfbRead_column, lfbRead_row, lfbReadValue, h]
  simp only [hrange]
  rfl

/-- Settles O52: the selected surface, or none; the position by its fields, and the range test. -/
theorem lfbReadReturnsPixels : Obligations.LfbReadReturnsPixels := by
  intro l s mode x y scry off base value
  have hanswer : exec (.lfbRd l) s = .next { s with readData := lfbReadValue l s } := rfl
  have hsurface : s.lfbReadSurface = base := lfbReadSurface_eq s
  rw [hanswer]
  suffices hvalue : lfbReadValue l s = value by rw [hvalue]
  cases hbase : base with
  | none =>
    rw [lfbReadValue_of_no_surface (hsurface.trans hbase)]
    simp only [value, hbase]
  | some b =>
    rw [lfbReadValue_of_surface (hsurface.trans hbase)]
    simp only [value, hbase]
    rfl

/-! ### The round trip -/

/-- A five-bit channel expanded to a byte keeps its value in the top five bits, and widens to six (42_texture.md R271). -/
theorem expand5_bits : ∀ v < 32, (v <<< 3 ||| v >>> 2) < 256 ∧ (v <<< 3 ||| v >>> 2) / 8 = v ∧
    (v <<< 3 ||| v >>> 2) / 4 = (v <<< 1 ||| v >>> 4) := by
  decide

/-- A six-bit channel expanded to a byte keeps its value in the top six bits (42_texture.md R271). -/
theorem expand6_bits : ∀ v < 64, (v <<< 2 ||| v >>> 4) < 256 ∧ (v <<< 2 ||| v >>> 4) / 4 = v := by
  decide

/-- Fields of five, six and five bits side by side are their sum. -/
theorem or_565 {p q r : Nat} (hq : q < 64) (hr : r < 32) : p <<< 11 ||| q <<< 5 ||| r = p * 2048 + q * 32 + r := by
  have hlow : q <<< 5 ||| r = q * 32 + r := by
    rw [← Nat.shiftLeft_add_eq_or_of_lt (by omega), Nat.shiftLeft_eq]
  rw [Nat.or_assoc, hlow, ← Nat.shiftLeft_add_eq_or_of_lt (by omega), Nat.shiftLeft_eq]
  omega

/-- Without dithering a colour keeps its high bits, whose fields are given by number (43_pixel.md R350). -/
theorem reduce565_eq_or {fbz : Word} (h : fbzDithering fbz = false) {r g b p q t : Nat} (hr : r < 256 ∧ r / 8 = p)
    (hg : g < 256 ∧ g / 4 = q) (hb : b < 256 ∧ b / 8 = t) (a x y : Int) :
    reduce565 fbz ⟨a, r, g, b⟩ x y = BitVec.ofNat 16 (p <<< 11 ||| q <<< 5 ||| t) := by
  obtain ⟨hr, rfl⟩ := hr
  obtain ⟨hg, rfl⟩ := hg
  obtain ⟨hb, rfl⟩ := hb
  apply BitVec.eq_of_toNat_eq
  rw [reduce565_of_not_dithering h hr hg hb, or_565 (by omega) (by omega), BitVec.toNat_ofNat]
  omega

/-- Settles O53: each channel by the bits that its expansion keeps. -/
theorem lfbRoundTrip : Obligations.LfbRoundTrip := by
  intro fbz a x y h
  refine ⟨fun p q r hp hq hr => ?rgb565, fun p q r hp hq hr => ?rgb555, fun p q r hp hq hr => ?rgb888⟩
  case rgb565 =>
    obtain ⟨hp, hpTop, -⟩ := expand5_bits p hp
    obtain ⟨hr, hrTop, -⟩ := expand5_bits r hr
    exact reduce565_eq_or h ⟨hp, hpTop⟩ (expand6_bits q hq) ⟨hr, hrTop⟩ a x y
  case rgb555 =>
    obtain ⟨hp, hpTop, -⟩ := expand5_bits p hp
    obtain ⟨hq, -, hqWide⟩ := expand5_bits q hq
    obtain ⟨hr, hrTop, -⟩ := expand5_bits r hr
    exact reduce565_eq_or h ⟨hp, hpTop⟩ ⟨hq, hqWide⟩ ⟨hr, hrTop⟩ a x y
  case rgb888 =>
    rw [reduce565_eq_or h ⟨hp, rfl⟩ ⟨hq, rfl⟩ ⟨hr, rfl⟩]
    simp only [Nat.shiftRight_eq_div_pow]

end Sys2Proof.Machine
end

section
/-! Construction (60_exceptions.md R402; 70_reset_and_hazards.md R430, R431): the size checks in the model's order, and the
state that passes them. -/

namespace Sys2Proof.Machine

/-- Construction with sizes that pass every check starts in the reset state (70_reset_and_hazards.md R430). -/
theorem instantiate_of_large {p : Params} (hfb : p.fbLargeEnough = true) (htex : p.texLargeEnough = true) :
    instantiate p = .next (State.resetWith p) := by
  simp only [Params.texLargeEnough, Bool.and_eq_true, Bool.or_eq_true, Bool.not_eq_true', decide_eq_true_eq] at htex
  obtain ⟨h0, h1⟩ := htex
  have hsmall0 : ¬ (bit p.chipmask 1 = true ∧ ¬ p.texMinBits ≤ p.texBits0) := fun ⟨hpresent, hsmall⟩ =>
    h0.elim (fun habsent => Bool.false_ne_true (habsent.symm.trans hpresent)) hsmall
  have hsmall1 : ¬ (bit p.chipmask 2 = true ∧ ¬ p.texMinBits ≤ p.texBits1) := fun ⟨hpresent, hsmall⟩ =>
    h1.elim (fun habsent => Bool.false_ne_true (habsent.symm.trans hpresent)) hsmall
  rw [instantiate, if_neg (not_not.2 (of_decide_eq_true hfb)), if_neg hsmall0, if_neg hsmall1]

/-- No register is listed at reset, so each reads 0 (70_reset_and_hazards.md R431; log entry 2). -/
theorem resetWith_slot (p : Params) (k : Nat) : (State.resetWith p).slot k = 0 := rfl

/-- The layout of reset is FB_LAYOUT of zeros (10_state.md R69; log entry 2). -/
theorem resetWith_layoutSound (p : Params) : (State.resetWith p).layoutSound = true := by
  have hzero : ∀ gen size, 0 < size → fbLayout gen size 0 0 0 0 = ⟨some 0, none, none, none, 0, 0⟩ := by
    intro gen size hsize
    cases gen <;> simp [fbLayout, bufferConfig, rowPitch, surfaceAt, hsize, field, fieldNat]
  exact decide_eq_true (hzero p.gen _ (Nat.two_pow_pos p.fbBits)).symm

/-- Settles O60: the checks in their order; past them the fields of the reset state. -/
theorem constructionGivesResetState : Obligations.ConstructionGivesResetState := by
  intro p
  refine ⟨fun hfb => ?fbTooSmall, fun hfb h0 hsmall => ?tex0TooSmall, fun hfb hlarge0 h1 hsmall => ?tex1TooSmall,
    fun hfb htex => ?reset⟩
  case fbTooSmall => rw [instantiate, if_pos (Nat.not_le.2 hfb)]
  case tex0TooSmall =>
    rw [instantiate, if_neg (not_not.2 hfb), if_pos ⟨h0, Nat.not_le.2 hsmall⟩]
  case tex1TooSmall =>
    rw [instantiate, if_neg (not_not.2 hfb), if_neg fun ⟨h0, hsmall0⟩ => hsmall0 (hlarge0 h0),
      if_pos ⟨h1, Nat.not_le.2 hsmall⟩]
  case reset =>
    refine ⟨_, instantiate_of_large hfb htex, rfl, fun _ _ _ _ => resetWith_slot p _, fun _ => ⟨rfl, rfl⟩, rfl, rfl,
      fun u => ?unit, rfl, rfl, resetWith_layoutSound p, rfl, rfl, rfl⟩
    cases u <;> exact ⟨rfl, rfl, rfl, rfl, rfl, rfl, fun _ => rfl⟩

end Sys2Proof.Machine
end

section
/-! Transactions that change the log (60_exceptions.md R401): only the checks of an access log, and what they answer is the
event alone; the handler that runs behind them, like every pixel, leaves the log as it is. -/

namespace Sys2Proof.Machine

/-! ### Handlers -/

/-- Whatever state the handler completes with, it has logged nothing. -/
def KeepsLog (handler : ChipSet → Word → State → Out) : Prop :=
  ∀ chips d s t, handler chips d s = .next t → t.log = s.log

/-- The handler completes, and logs nothing. -/
def CompletesQuietly (handler : ChipSet → Word → State → Out) : Prop :=
  ∀ chips d s, ∃ t, handler chips d s = .next t ∧ t.log = s.log

theorem CompletesQuietly.keepsLog {handler : ChipSet → Word → State → Out} (h : CompletesQuietly handler) :
    KeepsLog handler := by
  intro chips d s t ht
  obtain ⟨u, hu, hlog⟩ := h chips d s
  obtain rfl := Host.Outcome.next.inj (ht.symm.trans hu)
  exact hlog

/-- A handler that only updates the state completes. -/
theorem CompletesQuietly.of_update {f : ChipSet → Word → State → State} (h : ∀ chips d s, (f chips d s).log = s.log) :
    CompletesQuietly fun chips d s => .next (f chips d s) :=
  fun chips d s => ⟨f chips d s, rfl, h chips d s⟩

theorem updateFbi_log (chips : ChipSet) (f : FbiIter → FbiIter) (s : State) : (updateFbi chips f s).log = s.log := by
  rw [updateFbi_eq]

theorem updateTmus_log (chips : ChipSet) (f : Tmu → Tmu) (s : State) : (updateTmus chips f s).log = s.log := by
  rw [updateTmus_eq]

theorem storeChips_log (chips : ChipSet) (n : RegNum) (d : Word) (s : State) : (storeChips chips n d s).log = s.log := by
  rw [storeChips_frame]

@[simp] theorem storeOnly_quiet : CompletesQuietly storeOnly := .of_update fun _ _ _ => rfl

@[simp] theorem fbiParam_quiet (put : Word → FbiIter → FbiIter) : CompletesQuietly (fbiParam put) :=
  .of_update fun chips d s => updateFbi_log chips (put d) s

@[simp] theorem tmuParam_quiet (put : Word → Tmu → Tmu) : CompletesQuietly (tmuParam put) :=
  .of_update fun chips d s => updateTmus_log chips (put d) s

@[simp] theorem bothParam_quiet (putFbi : Word → FbiIter → FbiIter) (putTmu : Word → Tmu → Tmu) :
    CompletesQuietly (bothParam putFbi putTmu) :=
  .of_update fun chips d s => (updateTmus_log chips (putTmu d) _).trans (updateFbi_log chips (putFbi d) s)

@[simp] theorem nccWrite_quiet (table : Bool) (k : Nat) : CompletesQuietly (nccWrite table k) :=
  .of_update fun chips d s => updateTmus_log chips (nccWriteTmu table k d) s

@[simp] theorem tmuRegWrite_quiet : CompletesQuietly tmuRegWrite :=
  .of_update fun chips _ s => updateTmus_log chips markDirty s

@[simp] theorem timingWrite_quiet (n : RegNum) : CompletesQuietly (timingWrite n) := .of_update fun _ _ _ => rfl

@[simp] theorem fogTableWrite_quiet (i : Nat) : CompletesQuietly (fogTableWrite i) := .of_update fun _ _ _ => rfl

@[simp] theorem unpackArgb_quiet : CompletesQuietly unpackArgb := .of_update fun _ _ _ => rfl

@[simp] theorem initWrite_quiet : CompletesQuietly initWrite :=
  .of_update fun _ _ s => by rw [relayout_eq]

@[simp] theorem nopWrite_quiet : CompletesQuietly nopWrite := fun chips d s => ⟨_, nopWrite_eq chips d s, rfl⟩

@[simp] theorem swapWrite_quiet : CompletesQuietly swapWrite := by
  intro chips d s
  rw [swapWrite_eq]
  split
  · exact ⟨_, rfl, rfl⟩
  · exact ⟨_, rfl, rfl⟩

theorem fastfill_quiet : CompletesQuietly fun _ _ s => .next (fastfill s) :=
  .of_update fun _ _ s => by rw [fastfill_eq, fbWrites_frame]; rfl

theorem beginTriangle_quiet : CompletesQuietly fun _ _ s => .next (beginTriangle s) :=
  .of_update fun _ _ _ => rfl

/-! ### Triangles -/

/-- A triangle that completes has logged nothing (41_triangle.md R212). -/
theorem triangle_log {s t : State} (h : triangle s = .next t) : t.log = s.log := by
  rcases triangle_cases s with ⟨-, hnone⟩ | ⟨base, -, ⟨-, hfull⟩ | ⟨-, hrun⟩⟩
  · cases hnone.symm.trans h; rfl
  · cases hfull.symm.trans h
  · exact (rasterize_only (hrun.symm.trans h)).log

theorem triangleWrite_keepsLog : KeepsLog triangleWrite := by
  intro chips d s t h
  have hlog : t.log = State.log { s with fbi := { s.fbi with sign := bit d 31 } } := triangle_log h
  exact hlog

/-- The vertex push and the setup before a triangle log nothing (41_triangle.md R221, R222). -/
theorem drawTriangle_keepsLog : KeepsLog fun _ _ s => drawTriangle s := by
  intro chips d s t h
  simp only [drawTriangle, setupTriangle] at h
  split at h
  · split at h
    · cases h; rfl
    · refine (triangle_log h).trans ?_
      rw [setupParams_only]
      rfl
  · cases h; rfl

/-! ### Writes -/

/-- A transaction takes the write path of a register, and its handler completes quietly unless the transaction may draw a
triangle. -/
def WritesRegister (i : Instr) : Prop :=
  ∃ n cs d handler, encode i = regRequest n (.write cs d) ∧ (∀ s, exec i s = regWrite n cs d handler s) ∧
    (CompletesQuietly handler ∨ (TriangleWrite i ∧ KeepsLog handler))

/-- A register whose writes run one handler: the write among its two accesses. -/
theorem WritesRegister.of_access {instr : RegAccess → Instr} {n : RegNum} {handler : ChipSet → Word → State → Out}
    {a : RegAccess} (hencode : ∀ a, encode (instr a) = regRequest n a)
    (hexec : ∀ cs d s, exec (instr (.write cs d)) s = regWrite n cs d handler s)
    (hhandler : ∀ cs d, CompletesQuietly handler ∨ (TriangleWrite (instr (.write cs d)) ∧ KeepsLog handler))
    (h : (encode (instr a)).kind = .wr) : WritesRegister (instr a) := by
  cases a with
  | read => rw [hencode] at h; cases h
  | write cs d => exact ⟨n, cs, d, handler, hencode _, hexec cs d, hhandler cs d⟩

theorem WritesRegister.of_quiet {instr : RegAccess → Instr} {n : RegNum} {handler : ChipSet → Word → State → Out}
    {a : RegAccess} (hencode : ∀ a, encode (instr a) = regRequest n a)
    (hexec : ∀ cs d s, exec (instr (.write cs d)) s = regWrite n cs d handler s) (hquiet : CompletesQuietly handler)
    (h : (encode (instr a)).kind = .wr) : WritesRegister (instr a) :=
  .of_access hencode hexec (fun _ _ => .inl hquiet) h

/-- A write goes to a register, to the linear frame buffer or to texture memory. -/
theorem write_cases {i : Instr} (h : (encode i).kind = .wr) :
    WritesRegister i ∨ (∃ l d, i = .lfbWr l d) ∨ ∃ unit lod row sword d, i = .texWr unit lod row sword d := by
  cases i
  case lfbWr l d => exact .inr (.inl ⟨l, d, rfl⟩)
  case texWr unit lod row sword d => exact .inr (.inr ⟨unit, lod, row, sword, d, rfl⟩)
  case lfbRd | texRd => cases h
  case triangleCMD =>
    exact .inl (.of_access (fun _ => rfl) (fun _ _ _ => rfl)
      (fun cs d => .inr ⟨⟨cs, d, .inl rfl⟩, triangleWrite_keepsLog⟩) h)
  case ftriangleCMD =>
    exact .inl (.of_access (fun _ => rfl) (fun _ _ _ => rfl)
      (fun cs d => .inr ⟨⟨cs, d, .inr (.inl rfl)⟩, triangleWrite_keepsLog⟩) h)
  case sDrawTriCMD =>
    exact .inl (.of_access (fun _ => rfl) (fun _ _ _ => rfl)
      (fun cs d => .inr ⟨⟨cs, d, .inr (.inr rfl)⟩, drawTriangle_keepsLog⟩) h)
  case fastfillCMD => exact .inl (.of_quiet (fun _ => rfl) (fun _ _ _ => rfl) fastfill_quiet h)
  case sBeginTriCMD => exact .inl (.of_quiet (fun _ => rfl) (fun _ _ _ => rfl) beginTriangle_quiet h)
  case status | fbiPixelsIn | fbiChromaFail | fbiZfuncFail | fbiAfuncFail | fbiPixelsOut | vRetrace | hvRetrace |
      fbiSwapHistory | fbiTrianglesOut =>
    exact .inl (.of_quiet (fun _ => rfl) (fun _ _ _ => rfl) storeOnly_quiet h)
  -- every other register has one of the quiet handlers above
  all_goals exact .inl (.of_quiet (fun _ => rfl) (fun _ _ _ => rfl) (by simp) h)

/-! ### What is logged -/

/-- The write logged nothing, or appended one event and changed nothing else (60_exceptions.md R401). -/
def LoggedAlone (s t : State) : Prop := t.log = s.log ∨ ∃ e, t = { s with log := s.log ++ [e] }

theorem LoggedAlone.of_dropWrite {e : LogEvent} {s t : State} (h : dropWrite e s = .next t) : LoggedAlone s t :=
  .inr ⟨e, (Host.Outcome.next.inj h).symm⟩

/-- A register write logs where a check of 40_register_access.md R170 drops it. -/
theorem regWrite_loggedAlone {n : RegNum} {cs : ChipSet} {d : Word} {handler : ChipSet → Word → State → Out}
    (hkeeps : KeepsLog handler) {s t : State} (h : regWrite n cs d handler s = .next t) : LoggedAlone s t := by
  rcases regWrite_cases n cs d handler s with
    ⟨-, k⟩ | ⟨-, ⟨-, k⟩ | ⟨-, ⟨-, k⟩ | ⟨-, ⟨-, -, k⟩ | ⟨-, k⟩⟩⟩⟩ <;> rw [k] at h
  · cases h
  · exact .of_dropWrite h
  · exact .of_dropWrite h
  · exact .of_dropWrite h
  · exact .inl ((hkeeps _ _ _ _ h).trans (storeChips_log _ _ _ _))

/-- A texture write logs where its unit or its LOD drops it (42_texture.md R290; log entry 21). -/
theorem textureWrite_loggedAlone {unit : BitVec 2} {lod : BitVec 4} {row : Byte} {sword : BitVec 7} {d : Word}
    {s t : State} (h : textureWrite unit lod row sword d s = .next t) : LoggedAlone s t := by
  rcases textureWrite_cases unit lod row sword d s with ⟨-, k⟩ | ⟨u, -, ⟨-, -, k⟩ | ⟨-, k⟩ | ⟨-, k⟩⟩ <;> rw [k] at h
  · exact .of_dropWrite h
  · cases h
  · exact .of_dropWrite h
  · cases h
    cases u <;> exact .inl rfl

/-- What a write to the linear frame buffer can do: a logged drop, or its pixels, which log nothing (44_commands.md R380). -/
theorem execLfbWr_completes (l : BitVec 20) (d : Word) (s : State) :
    ∃ t, exec (.lfbWr l d) s = .next t ∧ LoggedAlone s t := by
  cases hcarries : lfbCarries (lfbWriteFormat s.lfbMode) with
  | none => exact ⟨_, execLfbWr_of_reserved_format hcarries l d, .inr ⟨_, rfl⟩⟩
  | some c =>
    by_cases hbuffer : 2 ≤ lfbWriteBuffer s.lfbMode
    · exact ⟨_, execLfbWr_of_reserved_buffer hcarries hbuffer l d, .inr ⟨_, rfl⟩⟩
    · cases hsurface : s.lfbSurface (lfbWriteBuffer s.lfbMode) with
      | none => exact ⟨s, execLfbWr_of_no_surface hcarries hbuffer hsurface l d, .inl rfl⟩
      | some base =>
        obtain ⟨t, hpixels, hdrawn⟩ := foldOut_lfbDrawn (base := base) (c := c) (l := l)
          (data := lfbWriteData s.lfbMode d) (s := s) fun k hk => hk
        exact ⟨t, (execLfbWr_of_surface hcarries hbuffer hsurface l d).trans hpixels, .inl hdrawn.only.log⟩

/-- A write that changes the log changes nothing else (60_exceptions.md R401). -/
theorem write_loggedAlone {i : Instr} {s t : State} (hkind : (encode i).kind = .wr) (h : exec i s = .next t) :
    LoggedAlone s t := by
  rcases write_cases hkind with ⟨n, cs, d, handler, -, hexec, hhandler⟩ | ⟨l, d, rfl⟩ | ⟨unit, lod, row, sword, d, rfl⟩
  · have hkeeps : KeepsLog handler := hhandler.elim CompletesQuietly.keepsLog And.right
    exact regWrite_loggedAlone hkeeps ((hexec s).symm.trans h)
  · obtain ⟨u, hu, hlogged⟩ := execLfbWr_completes l d s
    obtain rfl := Host.Outcome.next.inj (h.symm.trans hu)
    exact hlogged
  · exact textureWrite_loggedAlone h

/-- Settles O11: a read has the two outcomes of O10, of which one logs; a write logs alone. -/
theorem loggedTransactionsChangeNothingElse : Obligations.LoggedTransactionsChangeNothingElse := by
  intro i s t h hchanged
  cases hkind : (encode i).kind with
  | rd =>
    rcases readsChangeNothingElse i s hkind with ⟨v, hread⟩ | ⟨e, hread⟩
    · obtain rfl := Host.Outcome.next.inj (hread.symm.trans h)
      exact absurd rfl hchanged
    · exact ⟨e, (Host.Outcome.next.inj (hread.symm.trans h)).symm⟩
  | wr =>
    rcases write_loggedAlone hkind h with hsame | ⟨e, ht⟩
    · exact absurd hsame hchanged
    · exact ⟨e, ht⟩

end Sys2Proof.Machine
end

section
/-! The stops of the transactions (60_exceptions.md R402, R404 to R406): a triangle stops at the cache lookup or at a unit that
cannot sample, a register write where R173 refuses it, a texture write at tdirect_write, and nothing else stops. -/

namespace Sys2Proof.Machine

/-! ### The full cache -/

/-- There is no room when the key is new and the cache is full (60_exceptions.md R404). -/
theorem not_cacheRoom_iff {s : State} : ¬ s.cacheRoom ↔
    renderKey s s.ntmu ∉ s.cacheStates ∧ Config.cacheCapacity - s.cfg.cacheReserved ≤ s.cacheStates.length := by
  rw [State.cacheRoom, not_or, Nat.not_lt]

/-- Without room a triangle on a draw surface stops in the prepared state, with `fatal` set (60_exceptions.md R402, R404). -/
theorem triangle_of_not_cacheRoom {s : State} {base : Nat} (hbase : s.drawOffset = some base) (h : ¬ s.cacheRoom) :
    triangle s = .fault (.cacheFull { s.prepared with fatal := true }) := by
  rcases triangle_cases s with ⟨hnone, -⟩ | ⟨-, -, ⟨-, hfull⟩ | ⟨hroom, -⟩⟩
  · cases hnone.symm.trans hbase
  · exact hfull
  · exact absurd hroom h

/-- Rasterization never faults (43_pixel.md R300, R302). -/
theorem rasterize_ne_fault (base ntmu : Nat) (s : State) (r : Fault) : rasterize base ntmu s ≠ .fault r := by
  rcases rasterize_stops base ntmu s with ⟨t, h⟩ | ⟨_, h, -⟩ <;> rw [h] <;> exact nofun

/-- With room a triangle does not fault (60_exceptions.md R404). -/
theorem triangle_ne_fault {s : State} (h : s.cacheRoom) (r : Fault) : triangle s ≠ .fault r := by
  rcases triangle_cases s with ⟨-, hnone⟩ | ⟨base, -, ⟨hfull, -⟩ | ⟨-, hrun⟩⟩
  · rw [hnone]; exact nofun
  · exact absurd h hfull
  · rw [hrun]; exact rasterize_ne_fault _ _ _ r

/-- Settles O40: the store keeps the draw surface, the key and the cache, so the triangle has room as before the command. -/
theorem triangleCacheFull : Obligations.TriangleCacheFull := by
  intro row hrow cs d s base hwf hchips hbase
  obtain ⟨regs, hstored, hexec, hsame⟩ := exec_triangleRow hrow d hwf hchips
  refine ⟨regs, hstored, fun hfull => ?full, fun hroom r => ?room⟩
  case full =>
    have hno := hsame.cacheRoom.not.2 (not_cacheRoom_iff.2 hfull)
    exact hexec.trans (triangle_of_not_cacheRoom (hsame.drawOffset.trans hbase) hno)
  case room =>
    rw [hexec]
    exact triangle_ne_fault (hsame.cacheRoom.2 (not_not.1 fun h => hroom (not_cacheRoom_iff.1 h))) r

/-! ### The stops of a triangle -/

/-- A unit that the state's registers activate and let sample gives rise to refusal `r` (42_texture.md R254). -/
def State.TextureRefusal (s : State) (r : Refusal) : Prop :=
  ∃ u ∈ activeTmus s.ntmu, s.samples u ∧ ((r = .separateRgbaFilter ∧ s.separateFilter u) ∨
    (r = .reservedTexelFormat ∧ s.formatReserved u) ∨ (r = .noSuchLevel ∧ ¬ s.levelsExist u))

/-- What a drawing command of state `s` can answer: a next state, CacheFull on a draw surface, or the refusal of a unit that
samples (60_exceptions.md R404, R405). -/
def State.DrawOutcome (s : State) (o : Out) : Prop :=
  (∃ t, o = .next t) ∨ (s.drawOffset ≠ none ∧ ∃ left, o = .fault (.cacheFull left) ∧ left.fatal = true) ∨
    ∃ r, o = .refused r ∧ s.TextureRefusal r

theorem triangle_drawOutcome {s : State} (hderived : ∀ u, s.derivedSound u = true) : s.DrawOutcome (triangle s) := by
  rcases triangle_stops (hderived .t0) (hderived .t1) with hnext | ⟨-, hfull⟩ | hrefused
  · exact .inl hnext
  · refine .inr (.inl ⟨fun hnone => ?_, _, hfull, rfl⟩)
    cases hfull.symm.trans (triangle_of_drawOffset_none hnone)
  · exact .inr (.inr hrefused)

/-- The stops of a triangle are told by any state with the same controls. -/
theorem SameControls.drawOutcome {s t : State} (h : SameControls s t) {o : Out} (ho : t.DrawOutcome o) :
    s.DrawOutcome o := by
  simpa only [State.DrawOutcome, State.TextureRefusal, State.samples, State.separateFilter, State.formatReserved,
    State.levelsExist, h.drawOffset, h.ntmu, h.tLOD, h.tDetail, h.textureMode, h.cfg] using ho

/-! ### The drawing commands -/

/-- A register write that R173 does not refuse completes, logged, unless it is permitted and reaches a chip
(40_register_access.md R171, R172). -/
theorem exec_next_or_reaches {i : Instr} {n : RegNum} {cs : ChipSet} {d : Word} {s : State}
    (hencode : encode i = regRequest n (.write cs d)) (hdescribed : undescribed s.cfg.gen n = false) :
    (∃ t, exec i s = .next t) ∨
      ((accessFlags s.cfg.gen n).w = true ∧ effectiveChips cs s.cfg.chipmask ≠ 0#4) := by
  cases hw : (accessFlags s.cfg.gen n).w with
  | false =>
    obtain ⟨hdropped, -⟩ := writeWithoutPermissionLogged n cs d s hdescribed hw
    exact .inl ⟨_, hdropped i hencode⟩
  | true =>
    by_cases hchips : effectiveChips cs s.cfg.chipmask = 0#4
    · exact .inl ⟨_, emptyChipSetLogged n cs d s i hencode hdescribed hw hchips⟩
    · exact .inr ⟨rfl, hchips⟩

/-- R173 names no drawing command (40_register_access.md R173). -/
theorem undescribed_of_mem_drawRegs (gen : Gen) : ∀ n ∈ drawRegs, undescribed gen n = false := by
  cases gen <;> decide

/-- Only V2 has sDrawTriCMD (10_state.md R30). -/
theorem gen_of_sDrawTriCMD_writable {gen : Gen} (h : (accessFlags gen 0xA8).w = true) : gen = .v2 := by
  cases gen with
  | v1 => cases h
  | v2 => rfl

theorem triangleRow_drawOutcome {row : RegRow} (hrow : row ∈ triangleRows) {cs : ChipSet} {d : Word} {s : State}
    (hinv : s.Inv) (hencode : encode (row.instr (.write cs d)) = regRequest row.num (.write cs d)) :
    s.DrawOutcome (exec (row.instr (.write cs d)) s) := by
  have hnum : ∀ row ∈ triangleRows, row.num ∈ drawRegs := by decide
  rcases exec_next_or_reaches hencode (undescribed_of_mem_drawRegs _ _ (hnum row hrow)) with hnext | ⟨-, hchips⟩
  · exact .inl hnext
  · obtain ⟨regs, -, hexec, hsame⟩ := exec_triangleRow hrow d hinv.regsWf hchips
    rw [hexec]
    exact hsame.drawOutcome (triangle_drawOutcome fun u =>
      (hsame.derivedSound (by cases u <;> rfl)).trans (hinv.derivedSound u))

theorem sDrawTriCMD_drawOutcome {cs : ChipSet} {d : Word} {s : State} (hinv : s.Inv) :
    s.DrawOutcome (exec (.sDrawTriCMD (.write cs d)) s) := by
  rcases exec_next_or_reaches (i := .sDrawTriCMD (.write cs d)) rfl (undescribed_of_mem_drawRegs _ 0xA8 (by decide)) with
    hnext | ⟨hw, hchips⟩
  · exact .inl hnext
  · obtain ⟨regs, hstored, hexec⟩ := exec_sDrawTriCMD d hinv.regsWf (gen_of_sDrawTriCMD_writable hw) hchips
    rw [hexec]
    split
    · split
      · exact .inl ⟨_, rfl⟩
      · exact (setupDone_sameControls hstored).drawOutcome (triangle_drawOutcome fun u =>
          setupDone_derivedSound hstored (hinv.derivedSound u))
    · exact .inl ⟨_, rfl⟩

/-- A write of a drawing command has the stops of a triangle (41_triangle.md R210, R211, R221). -/
theorem TriangleWrite.drawOutcome {i : Instr} (h : TriangleWrite i) {s : State} (hinv : s.Inv) :
    s.DrawOutcome (exec i s) := by
  obtain ⟨cs, d, rfl | rfl | rfl⟩ := h
  · exact triangleRow_drawOutcome (row := ⟨.triangleCMD, 0x20, false⟩) (.head _) hinv rfl
  · exact triangleRow_drawOutcome (row := ⟨.ftriangleCMD, 0x40, false⟩) (.tail _ (.head _)) hinv rfl
  · exact sDrawTriCMD_drawOutcome hinv

/-! ### The stops of every transaction -/

/-- A register write whose handler completes stops only where R173 refuses it. -/
theorem regWrite_next_or_undescribed {n : RegNum} {cs : ChipSet} {d : Word} {handler : ChipSet → Word → State → Out}
    (hquiet : CompletesQuietly handler) (s : State) :
    (∃ t, regWrite n cs d handler s = .next t) ∨
      (undescribed s.cfg.gen n = true ∧ regWrite n cs d handler s = .refused (.undescribedRegister n)) := by
  rcases regWrite_cases n cs d handler s with
    hrefused | ⟨-, ⟨-, k⟩ | ⟨-, ⟨-, k⟩ | ⟨-, ⟨-, -, k⟩ | ⟨-, k⟩⟩⟩⟩
  · exact .inr hrefused
  · exact .inl ⟨_, k⟩
  · exact .inl ⟨_, k⟩
  · exact .inl ⟨_, k⟩
  · obtain ⟨t, ht, -⟩ := hquiet _ d _
    exact .inl ⟨t, k.trans ht⟩

/-- Only V2 has registers without a description (40_register_access.md R173). -/
theorem gen_of_undescribed {gen : Gen} {n : RegNum} (h : undescribed gen n = true) :
    gen = .v2 ∧ undescribed .v2 n = true := by
  cases gen with
  | v1 => cases h
  | v2 => exact ⟨rfl, h⟩

/-- The unit field of a present unit (42_texture.md R290). -/
theorem unit_of_presentUnit {mask : ChipSet} {unit : BitVec 2} {u : TmuId} (h : presentUnit mask unit = some u) :
    (unit = 0 ∧ u = .t0) ∨ (unit = 1 ∧ u = .t1) := by
  unfold presentUnit at h
  split at h
  · next h0 => exact .inl ⟨h0.1, (Option.some.inj h).symm⟩
  · split at h
    · next h1 => exact .inr ⟨h1.1, (Option.some.inj h).symm⟩
    · cases h

/-- A texture write stops only at tdirect_write (42_texture.md R254 (b), R290). -/
theorem textureWrite_next_or_direct (unit : BitVec 2) (lod : BitVec 4) (row : Byte) (sword : BitVec 7) (d : Word)
    (s : State) :
    (∃ t, textureWrite unit lod row sword d s = .next t) ∨
      (s.cfg.gen = .v2 ∧ ∃ u, ((unit = 0 ∧ u = .t0) ∨ (unit = 1 ∧ u = .t1)) ∧ tlDirectWrite (s.tLOD u) = true) ∧
        textureWrite unit lod row sword d s = .refused .texDirectWrite := by
  rcases textureWrite_cases unit lod row sword d s with ⟨-, k⟩ | ⟨u, hu, ⟨hgen, hdirect, k⟩ | ⟨-, k⟩ | ⟨-, k⟩⟩
  · exact .inl ⟨_, k⟩
  · exact .inr ⟨⟨hgen, u, unit_of_presentUnit hu, hdirect⟩, k⟩
  · exact .inl ⟨_, k⟩
  · exact .inl ⟨_, k⟩

/-- Settles O12: a read completes; a write to a register stops as R173 or, when it draws, as a triangle does; a write to the
linear frame buffer completes; a texture write stops at tdirect_write. -/
theorem stopsAreListed : Obligations.StopsAreListed := by
  intro i s hinv
  cases hkind : (encode i).kind with
  | rd =>
    rcases readsChangeNothingElse i s hkind with ⟨v, hread⟩ | ⟨e, hread⟩ <;> rw [hread] <;> trivial
  | wr =>
    rcases write_cases hkind with ⟨n, cs, d, handler, hencode, hexec, hquiet | ⟨hdraws, -⟩⟩ | ⟨l, d, rfl⟩ |
      ⟨unit, lod, row, sword, d, rfl⟩
    · rw [hexec]
      rcases regWrite_next_or_undescribed (n := n) (cs := cs) (d := d) hquiet s with ⟨t, k⟩ | ⟨hundescribed, k⟩ <;> rw [k]
      · trivial
      · obtain ⟨hgen, hn⟩ := gen_of_undescribed hundescribed
        exact ⟨hgen, hn, cs, d, hencode⟩
    · rcases hdraws.drawOutcome hinv with ⟨t, k⟩ | ⟨hbase, left, k, hfatal⟩ | ⟨r, k, u, hu, hsamples, hunit⟩ <;> rw [k]
      · trivial
      · exact ⟨hdraws, hbase, left, rfl, hfatal⟩
      · rcases hunit with ⟨rfl, hseparate⟩ | ⟨rfl, hreserved⟩ | ⟨rfl, hlevels⟩
        · exact ⟨hdraws, u, hu, hsamples, hseparate⟩
        · exact ⟨hdraws, u, hu, hsamples, hreserved⟩
        · exact ⟨hdraws, u, hu, hsamples, hlevels⟩
    · obtain ⟨t, k, -⟩ := execLfbWr_completes l d s
      rw [k]
      trivial
    · have hexec : exec (.texWr unit lod row sword d) s = textureWrite unit lod row sword d s := rfl
      rw [hexec]
      rcases textureWrite_next_or_direct unit lod row sword d s with ⟨t, k⟩ | ⟨⟨hgen, u, hunit, hdirect⟩, k⟩ <;> rw [k]
      · trivial
      · exact ⟨hgen, unit, lod, row, sword, d, u, rfl, hunit, hdirect⟩

end Sys2Proof.Machine
end

section
/-! The reset state is sound, for every parameter set that construction accepts (70_reset_and_hazards.md R430, R431). -/

namespace Sys2Proof.Machine

/-- A unit right after reset is sound: nothing is listed in its tables, and its NCC tables are dirty (R431). -/
theorem Tmu.reset_sound (texBits : Nat) : Tmu.reset.sound texBits = true := rfl

/-- The empty cache of reset (70_reset_and_hazards.md R431). -/
theorem resetWith_cacheSound (p : Params) : (State.resetWith p).cacheSound = true := by
  rw [State.cacheSound, Bool.and_eq_true]
  exact ⟨decide_eq_true List.nodup_nil, decide_eq_true (Nat.zero_le _)⟩

/-- The block starts in a state with the invariant (70_reset_and_hazards.md R430, R431). -/
theorem resetWith_inv {p : Params} (hp : p.wellFormed = true) : (State.resetWith p).Inv where
  params := hp
  tables := rfl
  tmu0 := Tmu.reset_sound p.texBits0
  tmu1 := Tmu.reset_sound p.texBits1
  present := rfl
  derived0 := rfl
  derived1 := rfl
  layout := resetWith_layoutSound p
  cache := resetWith_cacheSound p
  swap := rfl

/-- Settles O59: the standard parameters (log entry 1) are among those that construction accepts. -/
theorem resetSatisfiesInvariant : Obligations.ResetSatisfiesInvariant :=
  resetWith_inv (by decide)

end Sys2Proof.Machine
end

section
/-! What a register write leaves alone in a chip outside its chip set (70_reset_and_hazards.md R444): the store goes by the
chip set, and so does every handler that touches a unit, but for sARGB (log entry 18) and the commands that draw. -/

namespace Sys2Proof.Machine

/-! ### Chips -/

/-- `t` has the unit and the register slice of chip `c` as they are in `s`: of the FBI the iterators, of a TMU all its
state. -/
structure ChipKept (c : Nat) (s t : State) : Prop where
  fbi : c = 0 → t.fbi = s.fbi
  tmu : ∀ u, c = chipOf u → t.tmu u = s.tmu u
  slots : ∀ m, t.slot (slotOf c m) = s.slot (slotOf c m)

theorem ChipKept.trans {c : Nat} {s t r : State} (h : ChipKept c s t) (k : ChipKept c t r) : ChipKept c s r :=
  ⟨fun hc => (k.fbi hc).trans (h.fbi hc), fun u hu => (k.tmu u hu).trans (h.tmu u hu),
    fun m => (k.slots m).trans (h.slots m)⟩

/-- `t` has the register file, the FBI iterators and the TMUs of `s`. -/
structure SameUnits (s t : State) : Prop where
  regs : t.regs = s.regs
  fbi : t.fbi = s.fbi
  tmu0 : t.tmu0 = s.tmu0
  tmu1 : t.tmu1 = s.tmu1

theorem SameUnits.chipKept {s t : State} (h : SameUnits s t) (c : Nat) : ChipKept c s t := by
  refine ⟨fun _ => h.fbi, fun u _ => ?tmu, fun m => congrArg (readTable 0 · (slotOf c m)) h.regs⟩
  cases u with
  | t0 => exact h.tmu0
  | t1 => exact h.tmu1

/-- An FBI register belongs to no other chip. -/
theorem setFbiReg_chipKept {c : Nat} (hc : c ≠ 0) (n : RegNum) (v : Word) (s : State) :
    ChipKept c s (s.setFbiReg n v) :=
  ⟨fun h => absurd h hc, fun u _ => by cases u <;> rfl, fun _ => slot_setSlot_other fun e => hc (slotOf_inj e).1⟩

section
variable {c : Nat} {chips : ChipSet}

/-- The store goes to the chips of the chip set (40_register_access.md R174). -/
theorem storeChips_chipKept (h : chips.getLsbD c = false) (n : RegNum) (d : Word) (s : State) :
    ChipKept c s (storeChips chips n d s) := by
  have hother : ∀ m, (storeChips chips n d s).slot (slotOf c m) = s.slot (slotOf c m) := fun m =>
    slot_storeChips_other fun c' _ hin e => by
      obtain ⟨rfl, -⟩ := slotOf_inj e
      exact Bool.false_ne_true (h.symm.trans hin)
  rw [storeChips_frame] at hother ⊢
  exact ⟨fun _ => rfl, fun u _ => by cases u <;> rfl, hother⟩

theorem updateFbi_chipKept (h : chips.getLsbD c = false) (f : FbiIter → FbiIter) (s : State) :
    ChipKept c s (updateFbi chips f s) := by
  rw [updateFbi_eq]
  refine ⟨fun hc => ?fbi, fun u _ => by cases u <;> rfl, fun _ => rfl⟩
  subst hc
  exact if_neg (ne_true_of_eq_false h)

theorem updateTmus_chipKept (h : chips.getLsbD c = false) (f : Tmu → Tmu) (s : State) :
    ChipKept c s (updateTmus chips f s) := by
  rw [updateTmus_eq]
  refine ⟨fun _ => rfl, fun u hu => ?tmu, fun _ => rfl⟩
  subst hu
  cases u <;> exact if_neg (ne_true_of_eq_false h)

end

/-! ### Handlers -/

/-- A handler that keeps chip `c` whenever the chip set leaves it out. -/
def Isolates (c : Nat) (handler : ChipSet → Word → State → Out) : Prop :=
  ∀ chips d s t, handler chips d s = .next t → chips.getLsbD c = false → ChipKept c s t

theorem Isolates.of_update {c : Nat} {f : ChipSet → Word → State → State}
    (h : ∀ chips d s, chips.getLsbD c = false → ChipKept c s (f chips d s)) :
    Isolates c fun chips d s => .next (f chips d s) := by
  rintro chips d s _ ⟨⟩ hout
  exact h chips d s hout

/-- A handler that completes and changes no unit and no register keeps every chip. -/
theorem Isolates.of_sameUnits {c : Nat} {handler : ChipSet → Word → State → Out}
    (h : ∀ chips d s, ∃ t, handler chips d s = .next t ∧ SameUnits s t) : Isolates c handler := by
  intro chips d s t ht _
  obtain ⟨u, hu, hsame⟩ := h chips d s
  obtain rfl := Host.Outcome.next.inj (ht.symm.trans hu)
  exact hsame.chipKept c

section
variable (c : Nat)

@[simp] theorem storeOnly_isolates : Isolates c storeOnly := .of_sameUnits fun _ _ _ => ⟨_, rfl, rfl, rfl, rfl, rfl⟩

@[simp] theorem fbiParam_isolates (put : Word → FbiIter → FbiIter) : Isolates c (fbiParam put) :=
  .of_update fun _ d s h => updateFbi_chipKept h (put d) s

@[simp] theorem tmuParam_isolates (put : Word → Tmu → Tmu) : Isolates c (tmuParam put) :=
  .of_update fun _ d s h => updateTmus_chipKept h (put d) s

@[simp] theorem bothParam_isolates (putFbi : Word → FbiIter → FbiIter) (putTmu : Word → Tmu → Tmu) :
    Isolates c (bothParam putFbi putTmu) :=
  .of_update fun _ d s h => (updateFbi_chipKept h (putFbi d) s).trans (updateTmus_chipKept h (putTmu d) _)

@[simp] theorem nccWrite_isolates (table : Bool) (k : Nat) : Isolates c (nccWrite table k) :=
  .of_update fun _ d s h => updateTmus_chipKept h (nccWriteTmu table k d) s

@[simp] theorem tmuRegWrite_isolates : Isolates c tmuRegWrite :=
  .of_update fun _ _ s h => updateTmus_chipKept h markDirty s

@[simp] theorem timingWrite_isolates (n : RegNum) : Isolates c (timingWrite n) :=
  .of_sameUnits fun _ _ _ => ⟨_, rfl, rfl, rfl, rfl, rfl⟩

@[simp] theorem fogTableWrite_isolates (i : Nat) : Isolates c (fogTableWrite i) :=
  .of_sameUnits fun _ _ _ => ⟨_, rfl, rfl, rfl, rfl, rfl⟩

@[simp] theorem initWrite_isolates : Isolates c initWrite :=
  .of_sameUnits fun _ _ s => ⟨_, rfl, by rw [relayout_eq]; exact ⟨rfl, rfl, rfl, rfl⟩⟩

@[simp] theorem nopWrite_isolates : Isolates c nopWrite :=
  .of_sameUnits fun chips d s => ⟨_, nopWrite_eq chips d s, rfl, rfl, rfl, rfl⟩

@[simp] theorem swapWrite_isolates : Isolates c swapWrite := by
  refine .of_sameUnits fun chips d s => ?_
  rw [swapWrite_eq]
  split
  · exact ⟨_, rfl, rfl, rfl, rfl, rfl⟩
  · exact ⟨_, rfl, rfl, rfl, rfl, rfl⟩

theorem fastfill_isolates : Isolates c fun _ _ s => .next (fastfill s) :=
  .of_sameUnits fun _ _ s => ⟨_, rfl, by rw [fastfill_eq, fbWrites_frame]; exact ⟨rfl, rfl, rfl, rfl⟩⟩

theorem beginTriangle_isolates : Isolates c fun _ _ s => .next (beginTriangle s) :=
  .of_sameUnits fun _ _ _ => ⟨_, rfl, rfl, rfl, rfl, rfl⟩

end

/-- The unpacking of sARGB writes FBI registers, whatever the chip set (30_encoding.md R146; log entry 18). -/
theorem unpackArgb_isolates {c : Nat} (hc : c ≠ 0) : Isolates c unpackArgb :=
  .of_update fun _ _ s _ => (((setFbiReg_chipKept hc _ _ s).trans (setFbiReg_chipKept hc _ _ _)).trans
    (setFbiReg_chipKept hc _ _ _)).trans (setFbiReg_chipKept hc _ _ _)

/-! ### Writes -/

/-- A transaction writes register `n`, and the handler isolates every chip, the FBI only where `n` is not sARGB. -/
def WritesIsolated (i : Instr) (n : RegNum) (cs : ChipSet) (d : Word) : Prop :=
  ∃ handler, (∀ s, exec i s = regWrite n cs d handler s) ∧ ∀ c, (c = 0 → n ≠ 0x9B) → Isolates c handler

/-- A register whose writes run one handler: the number and the access are those of the request. -/
theorem WritesIsolated.of_access {instr : RegAccess → Instr} {n m : RegNum} {a : RegAccess} {cs : ChipSet} {d : Word}
    {handler : ChipSet → Word → State → Out} (hencode : ∀ a, encode (instr a) = regRequest m a)
    (hexec : ∀ cs d s, exec (instr (.write cs d)) s = regWrite m cs d handler s)
    (hhandler : ∀ c, (c = 0 → m ≠ 0x9B) → Isolates c handler) (h : encode (instr a) = regRequest n (.write cs d)) :
    WritesIsolated (instr a) n cs d := by
  obtain ⟨rfl, rfl⟩ := regRequest_inj ((hencode a).symm.trans h)
  exact ⟨handler, hexec cs d, hhandler⟩

theorem WritesIsolated.of_isolates {instr : RegAccess → Instr} {n m : RegNum} {a : RegAccess} {cs : ChipSet} {d : Word}
    {handler : ChipSet → Word → State → Out} (hencode : ∀ a, encode (instr a) = regRequest m a)
    (hexec : ∀ cs d s, exec (instr (.write cs d)) s = regWrite m cs d handler s) (hhandler : ∀ c, Isolates c handler)
    (h : encode (instr a) = regRequest n (.write cs d)) : WritesIsolated (instr a) n cs d :=
  .of_access hencode hexec (fun c _ => hhandler c) h

/-- A request outside the register space names no register (30_encoding.md R130). -/
theorem encode_ne_regRequest {i : Instr} {n : RegNum} {a : RegAccess}
    (h : (encode i).addr.getLsbD 23 = true ∨ (encode i).addr.getLsbD 22 = true) : encode i ≠ regRequest n a := by
  intro he
  obtain ⟨h23, h22⟩ := regRequest_space n a
  rw [he, h23, h22] at h
  simp at h

/-- A register write that does not draw is isolated. -/
theorem writesIsolated_of_encode {i : Instr} {n : RegNum} {cs : ChipSet} {d : Word}
    (h : encode i = regRequest n (.write cs d)) (hdraws : ¬ TriangleWrite i) : WritesIsolated i n cs d := by
  cases i
  case lfbWr l _ | lfbRd l => exact absurd h (encode_ne_regRequest (.inr (lfbAddr_fields l).2.1))
  case texWr unit lod row sword _ | texRd unit lod row sword =>
    exact absurd h (encode_ne_regRequest (.inl (texAddr_fields unit lod row sword).1))
  case triangleCMD a =>
    obtain ⟨-, rfl⟩ := regRequest_inj h
    exact absurd ⟨cs, d, .inl rfl⟩ hdraws
  case ftriangleCMD a =>
    obtain ⟨-, rfl⟩ := regRequest_inj h
    exact absurd ⟨cs, d, .inr (.inl rfl)⟩ hdraws
  case sDrawTriCMD a =>
    obtain ⟨-, rfl⟩ := regRequest_inj h
    exact absurd ⟨cs, d, .inr (.inr rfl)⟩ hdraws
  case sARGB =>
    exact .of_access (fun _ => rfl) (fun _ _ _ => rfl) (fun _ hc => unpackArgb_isolates fun h0 => hc h0 rfl) h
  case fastfillCMD => exact .of_isolates (fun _ => rfl) (fun _ _ _ => rfl) fastfill_isolates h
  case sBeginTriCMD => exact .of_isolates (fun _ => rfl) (fun _ _ _ => rfl) beginTriangle_isolates h
  case status | fbiPixelsIn | fbiChromaFail | fbiZfuncFail | fbiAfuncFail | fbiPixelsOut | vRetrace | hvRetrace |
      fbiSwapHistory | fbiTrianglesOut =>
    exact .of_isolates (fun _ => rfl) (fun _ _ _ => rfl) storeOnly_isolates h
  -- every other register has one of the handlers above that are tagged `simp`
  all_goals exact .of_isolates (fun _ => rfl) (fun _ _ _ => rfl) (by simp) h

/-- A dropped write changes no chip (60_exceptions.md R401). -/
theorem dropWrite_chipKept {e : LogEvent} {s t : State} (h : dropWrite e s = .next t) (c : Nat) : ChipKept c s t := by
  have hsame : SameUnits s (logEvent e s) := ⟨rfl, rfl, rfl, rfl⟩
  obtain rfl := Host.Outcome.next.inj h
  exact hsame.chipKept c

/-- A chip outside the effective chip set sees neither the store nor an isolating handler (40_register_access.md R170,
R174). -/
theorem regWrite_chipKept {c : Nat} {n : RegNum} {cs : ChipSet} {d : Word} {handler : ChipSet → Word → State → Out}
    (hisolates : Isolates c handler) {s t : State} (h : regWrite n cs d handler s = .next t)
    (hout : (effectiveChips cs s.cfg.chipmask).getLsbD c = false) : ChipKept c s t := by
  rcases regWrite_cases n cs d handler s with
    ⟨-, k⟩ | ⟨-, ⟨-, k⟩ | ⟨-, ⟨-, k⟩ | ⟨-, ⟨-, -, k⟩ | ⟨-, k⟩⟩⟩⟩ <;> rw [k] at h
  · cases h
  · exact dropWrite_chipKept h c
  · exact dropWrite_chipKept h c
  · exact dropWrite_chipKept h c
  · exact (storeChips_chipKept hout n d s).trans (hisolates _ _ _ _ h hout)

/-- Settles O13: every chip outside the chip set is kept, a TMU always, the FBI but for sARGB. -/
theorem chipSelectIsolates : Obligations.ChipSelectIsolates := by
  intro i n cs d s t hencode hdraws hnext
  obtain ⟨handler, hexec, hisolates⟩ := writesIsolated_of_encode hencode hdraws
  rw [hexec] at hnext
  refine ⟨fun u hout => ?tmu, fun hout hn => ?fbi⟩
  case tmu =>
    have hkept := regWrite_chipKept (hisolates (chipOf u) fun h0 => by cases u <;> cases h0) hnext hout
    exact ⟨hkept.tmu u rfl, hkept.slots⟩
  case fbi =>
    have hkept := regWrite_chipKept (hisolates 0 fun _ => hn) hnext hout
    exact ⟨hkept.fbi rfl, hkept.slots⟩

end Sys2Proof.Machine
end
